-- ==== Sys2Proof/Word.lean ====
section
/-! DEFINITION. The two word sizes of the block: bytes and 16-bit words (00_scope.md R10, R12). -/

namespace Sys2Proof

/-- A byte, 0..255 (R12). -/
abbrev Byte := BitVec 8

/-- A 16-bit word, 0..65535: an address, pc, sp or HL (R12). -/
abbrev Word := BitVec 16

end Sys2Proof
end

