-- ==== Sys2Proof/Config.lean ====
section
/-! DEFINITION. What an implementation of the block fixes: the parameters the spec leaves open (00_scope.md R11),
held as data so that statements range over every value of them, and the free bits of the policy `havoc`. -/

namespace Sys2Proof

/-- `FLAG_AC_P_POLICY` (R11, 43_arithmetic.md R164): what an arithmetic result does to AC and P. -/
inductive FlagPolicy where
  /-- AC and P keep their values: the source's own statement, the default. -/
  | unchanged
  /-- AC and P each receive an arbitrary bit. -/
  | havoc
  /-- AC and P as the Intel 8080's addition sets them. -/
  | intel8080
deriving DecidableEq, Repr

/-- The parameters of R11 that a step depends on. R36 calls them constants of the block: no step changes them
(log entry 1). `INIT_MEM` and `INPUT`, the other two rows of R11, are the memory and the input stream of the state. -/
structure Config where
  /-- `IN_ADDR`, the input device register (20_memory.md R53). -/
  inAddr : Word
  /-- `OUT_ADDR`, the output device register (20_memory.md R55). -/
  outAddr : Word
  /-- `NOP_ALIASES`, the set of opcodes that mean no-operation (30_encoding.md R90), listed in rising order. -/
  nopAliases : List Byte
  /-- `CYCLE_COST`: the cost of opcode n is entry n (30_encoding.md R92). -/
  cycleCost : List Nat
  /-- `FLAG_AC_P_POLICY` (43_arithmetic.md R164). -/
  flagPolicy : FlagPolicy
deriving DecidableEq, Repr

/-- The bit of draw n under the policy `havoc` (R164): nothing constrains it (log entry 9). -/
opaque Config.freeBit : Nat → Bool

end Sys2Proof
end

