-- ==== Sys2Proof/Syntax.lean ====
section
/-! DEFINITION. The instructions: one constructor per row of the opcode map (30_encoding.md R93; spec/opcode_table.json),
the execution rules a row can have (R87, R89 to R91), and the operand forms (R80 to R83). -/

namespace Sys2Proof

/-- The execution rules of the dispatch table (R87, R89): the six implemented handlers, or `unimplemented`. -/
inductive ExecRule where
  | nop
  | storeA
  | loadA
  | moveBA
  | halt
  | addB
  | unimplemented
deriving DecidableEq, Repr

/-- The operand of an instruction by its format: F1 none, F2 one byte used directly, F3 a 16-bit address (R81 to R83). -/
inductive Operand where
  | none
  | imm8 (v : Byte)
  | addr16 (a : Word)
deriving DecidableEq, Repr

/-- The 256 rows of the opcode map, in the table's order. Only LDA and STA have an operand in this hardware: a row with
the rule `Unimplemented` raises its fault before any operand byte is fetched (R91, R106; log entry 17). The eight
`NOP` rows are 0x00 and the seven candidates of R90, named after their bytes; the other rows whose mnemonic stands
twice in the map carry their byte as `X..`. -/
inductive Instr where
  | nop  -- 0x00 NOP
  | lxiBD16  -- 0x01 LXI B,d16
  | staxB  -- 0x02 STAX B
  | inxB  -- 0x03 INX B
  | inrB  -- 0x04 INR B
  | dcrB  -- 0x05 DCR B
  | mviBD8  -- 0x06 MVI B,d8
  | rlc  -- 0x07 RLC
  | nop08  -- 0x08 NOP
  | dadB  -- 0x09 DAD B
  | ldaxB  -- 0x0A LDAX B
  | dcxB  -- 0x0B DCX B
  | inrC  -- 0x0C INR C
  | dcrC  -- 0x0D DCR C
  | mviCD8  -- 0x0E MVI C,d8
  | rrc  -- 0x0F RRC
  | nop10  -- 0x10 NOP
  | lxiDD16  -- 0x11 LXI D,d16
  | staxD  -- 0x12 STAX D
  | inxD  -- 0x13 INX D
  | inrD  -- 0x14 INR D
  | dcrD  -- 0x15 DCR D
  | mviDD8  -- 0x16 MVI D,d8
  | ral  -- 0x17 RAL
  | nop18  -- 0x18 NOP
  | dadD  -- 0x19 DAD D
  | ldaxD  -- 0x1A LDAX D
  | dcxD  -- 0x1B DCX D
  | inrE  -- 0x1C INR E
  | dcrE  -- 0x1D DCR E
  | mviED8  -- 0x1E MVI E,d8
  | rar  -- 0x1F RAR
  | nop20  -- 0x20 NOP
  | lxiHD16  -- 0x21 LXI H,d16
  | shldA16  -- 0x22 SHLD a16
  | inxH  -- 0x23 INX H
  | inrH  -- 0x24 INR H
  | dcrH  -- 0x25 DCR H
  | mviHD8  -- 0x26 MVI H,d8
  | daa  -- 0x27 DAA
  | nop28  -- 0x28 NOP
  | dadH  -- 0x29 DAD H
  | lhldA16  -- 0x2A LHLD a16
  | dcxH  -- 0x2B DCX H
  | inrL  -- 0x2C INR L
  | dcrL  -- 0x2D DCR L
  | mviLD8  -- 0x2E MVI L,d8
  | cma  -- 0x2F CMA
  | nop30  -- 0x30 NOP
  | lxiSpD16  -- 0x31 LXI SP,d16
  | sta (a : Word)  -- 0x32 STA a16
  | inxSp  -- 0x33 INX SP
  | inrM  -- 0x34 INR M
  | dcrM  -- 0x35 DCR M
  | mviMD8  -- 0x36 MVI M,d8
  | stc  -- 0x37 STC
  | nop38  -- 0x38 NOP
  | dadSp  -- 0x39 DAD SP
  | lda (a : Word)  -- 0x3A LDA a16
  | dcxSp  -- 0x3B DCX SP
  | inrA  -- 0x3C INR A
  | dcrA  -- 0x3D DCR A
  | mviAD8  -- 0x3E MVI A,d8
  | cmc  -- 0x3F CMC
  | movBB  -- 0x40 MOV B,B
  | movBC  -- 0x41 MOV B,C
  | movBD  -- 0x42 MOV B,D
  | movBE  -- 0x43 MOV B,E
  | movBH  -- 0x44 MOV B,H
  | movBL  -- 0x45 MOV B,L
  | movBM  -- 0x46 MOV B,M
  | movBA  -- 0x47 MOV B,A
  | movCB  -- 0x48 MOV C,B
  | movCC  -- 0x49 MOV C,C
  | movCD  -- 0x4A MOV C,D
  | movCE  -- 0x4B MOV C,E
  | movCH  -- 0x4C MOV C,H
  | movCL  -- 0x4D MOV C,L
  | movCM  -- 0x4E MOV C,M
  | movCA  -- 0x4F MOV C,A
  | movDB  -- 0x50 MOV D,B
  | movDC  -- 0x51 MOV D,C
  | movDD  -- 0x52 MOV D,D
  | movDE  -- 0x53 MOV D,E
  | movDH  -- 0x54 MOV D,H
  | movDL  -- 0x55 MOV D,L
  | movDM  -- 0x56 MOV D,M
  | movDA  -- 0x57 MOV D,A
  | movEB  -- 0x58 MOV E,B
  | movEC  -- 0x59 MOV E,C
  | movED  -- 0x5A MOV E,D
  | movEE  -- 0x5B MOV E,E
  | movEH  -- 0x5C MOV E,H
  | movEL  -- 0x5D MOV E,L
  | movEM  -- 0x5E MOV E,M
  | movEA  -- 0x5F MOV E,A
  | movHB  -- 0x60 MOV H,B
  | movHC  -- 0x61 MOV H,C
  | movHD  -- 0x62 MOV H,D
  | movHE  -- 0x63 MOV H,E
  | movHH  -- 0x64 MOV H,H
  | movHL  -- 0x65 MOV H,L
  | movHM  -- 0x66 MOV H,M
  | movHA  -- 0x67 MOV H,A
  | movLB  -- 0x68 MOV L,B
  | movLC  -- 0x69 MOV L,C
  | movLD  -- 0x6A MOV L,D
  | movLE  -- 0x6B MOV L,E
  | movLH  -- 0x6C MOV L,H
  | movLL  -- 0x6D MOV L,L
  | movLM  -- 0x6E MOV L,M
  | movLA  -- 0x6F MOV L,A
  | movMB  -- 0x70 MOV M,B
  | movMC  -- 0x71 MOV M,C
  | movMD  -- 0x72 MOV M,D
  | movME  -- 0x73 MOV M,E
  | movMH  -- 0x74 MOV M,H
  | movML  -- 0x75 MOV M,L
  | hlt  -- 0x76 HLT
  | movMA  -- 0x77 MOV M,A
  | movAB  -- 0x78 MOV A,B
  | movAC  -- 0x79 MOV A,C
  | movAD  -- 0x7A MOV A,D
  | movAE  -- 0x7B MOV A,E
  | movAH  -- 0x7C MOV A,H
  | movAL  -- 0x7D MOV A,L
  | movAM  -- 0x7E MOV A,M
  | movAA  -- 0x7F MOV A,A
  | addB  -- 0x80 ADD B
  | addC  -- 0x81 ADD C
  | addD  -- 0x82 ADD D
  | addE  -- 0x83 ADD E
  | addH  -- 0x84 ADD H
  | addL  -- 0x85 ADD L
  | addM  -- 0x86 ADD M
  | addA  -- 0x87 ADD A
  | adcB  -- 0x88 ADC B
  | adcC  -- 0x89 ADC C
  | adcD  -- 0x8A ADC D
  | adcE  -- 0x8B ADC E
  | adcH  -- 0x8C ADC H
  | adcL  -- 0x8D ADC L
  | adcM  -- 0x8E ADC M
  | adcA  -- 0x8F ADC A
  | subB  -- 0x90 SUB B
  | subC  -- 0x91 SUB C
  | subD  -- 0x92 SUB D
  | subE  -- 0x93 SUB E
  | subH  -- 0x94 SUB H
  | subL  -- 0x95 SUB L
  | subM  -- 0x96 SUB M
  | subA  -- 0x97 SUB A
  | sbbB  -- 0x98 SBB B
  | sbbC  -- 0x99 SBB C
  | sbbD  -- 0x9A SBB D
  | sbbE  -- 0x9B SBB E
  | sbbH  -- 0x9C SBB H
  | sbbL  -- 0x9D SBB L
  | sbbM  -- 0x9E SBB M
  | sbbA  -- 0x9F SBB A
  | anaB  -- 0xA0 ANA B
  | anaC  -- 0xA1 ANA C
  | anaD  -- 0xA2 ANA D
  | anaE  -- 0xA3 ANA E
  | anaH  -- 0xA4 ANA H
  | anaL  -- 0xA5 ANA L
  | anaM  -- 0xA6 ANA M
  | anaA  -- 0xA7 ANA A
  | xraB  -- 0xA8 XRA B
  | xraC  -- 0xA9 XRA C
  | xraD  -- 0xAA XRA D
  | xraE  -- 0xAB XRA E
  | xraH  -- 0xAC XRA H
  | xraL  -- 0xAD XRA L
  | xraM  -- 0xAE XRA M
  | xraA  -- 0xAF XRA A
  | oraB  -- 0xB0 ORA B
  | oraC  -- 0xB1 ORA C
  | oraD  -- 0xB2 ORA D
  | oraE  -- 0xB3 ORA E
  | oraH  -- 0xB4 ORA H
  | oraL  -- 0xB5 ORA L
  | oraM  -- 0xB6 ORA M
  | oraA  -- 0xB7 ORA A
  | cmpB  -- 0xB8 CMP B
  | cmpC  -- 0xB9 CMP C
  | cmpD  -- 0xBA CMP D
  | cmpE  -- 0xBB CMP E
  | cmpH  -- 0xBC CMP H
  | cmpL  -- 0xBD CMP L
  | cmpM  -- 0xBE CMP M
  | cmpA  -- 0xBF CMP A
  | rnz  -- 0xC0 RNZ
  | popB  -- 0xC1 POP B
  | jnzA16  -- 0xC2 JNZ a16
  | jmpA16  -- 0xC3 JMP a16
  | cnzA16  -- 0xC4 CNZ a16
  | pushB  -- 0xC5 PUSH B
  | adiD8  -- 0xC6 ADI d8
  | rst0  -- 0xC7 RST 0
  | rz  -- 0xC8 RZ
  | ret  -- 0xC9 RET
  | jzA16  -- 0xCA JZ a16
  | jmpA16XCB  -- 0xCB JMP a16
  | czA16  -- 0xCC CZ a16
  | callA16  -- 0xCD CALL a16
  | aciD8  -- 0xCE ACI d8
  | rst1  -- 0xCF RST 1
  | rnc  -- 0xD0 RNC
  | popD  -- 0xD1 POP D
  | jncA16  -- 0xD2 JNC a16
  | outD8  -- 0xD3 OUT d8
  | cncA16  -- 0xD4 CNC a16
  | pushD  -- 0xD5 PUSH D
  | suiD8  -- 0xD6 SUI d8
  | rst2  -- 0xD7 RST 2
  | rc  -- 0xD8 RC
  | retXD9  -- 0xD9 RET
  | jcA16  -- 0xDA JC a16
  | inD8  -- 0xDB IN d8
  | ccA16  -- 0xDC CC a16
  | callA16XDD  -- 0xDD CALL a16
  | sbiD8  -- 0xDE SBI d8
  | rst3  -- 0xDF RST 3
  | rpo  -- 0xE0 RPO
  | popH  -- 0xE1 POP H
  | jpoA16  -- 0xE2 JPO a16
  | xthl  -- 0xE3 XTHL
  | cpoA16  -- 0xE4 CPO a16
  | pushH  -- 0xE5 PUSH H
  | aniD8  -- 0xE6 ANI d8
  | rst4  -- 0xE7 RST 4
  | rpe  -- 0xE8 RPE
  | pchl  -- 0xE9 PCHL
  | jpeA16  -- 0xEA JPE a16
  | xchg  -- 0xEB XCHG
  | cpeA16  -- 0xEC CPE a16
  | callA16XED  -- 0xED CALL a16
  | xriD8  -- 0xEE XRI d8
  | rst5  -- 0xEF RST 5
  | rp  -- 0xF0 RP
  | popPsw  -- 0xF1 POP PSW
  | jpA16  -- 0xF2 JP a16
  | di  -- 0xF3 DI
  | cpA16  -- 0xF4 CP a16
  | pushPsw  -- 0xF5 PUSH PSW
  | oriD8  -- 0xF6 ORI d8
  | rst6  -- 0xF7 RST 6
  | rm  -- 0xF8 RM
  | sphl  -- 0xF9 SPHL
  | jmA16  -- 0xFA JM a16
  | ei  -- 0xFB EI
  | cmA16  -- 0xFC CM a16
  | callA16XFD  -- 0xFD CALL a16
  | cpiD8  -- 0xFE CPI d8
  | rst7  -- 0xFF RST 7
deriving DecidableEq, Repr

end Sys2Proof
end

