-- ==== Sys2Proof/WellFormed.lean ====
section
/-! DEFINITION. What the spec demands of the parameters (00_scope.md R11) and of an instruction. -/

namespace Sys2Proof

/-- The bytes `NOP_ALIASES` is drawn from (R11, 30_encoding.md R90). -/
def nopCandidates : List Byte := [0x00, 0x08, 0x10, 0x18, 0x20, 0x28, 0x30, 0x38]

/-- `IN_ADDR` and `OUT_ADDR` differ (R11). -/
def Config.devicesDistinct (cfg : Config) : Bool := cfg.inAddr != cfg.outAddr

/-- A list of bytes in strictly rising order: one list per set of bytes. -/
def bytesRising : List Byte → Bool
  | a :: b :: rest => decide (a.toNat < b.toNat) && bytesRising (b :: rest)
  | _ => true

/-- `NOP_ALIASES` has exactly four members (R11). -/
def Config.aliasesFour (cfg : Config) : Bool := cfg.nopAliases.length == 4 && bytesRising cfg.nopAliases

/-- `NOP_ALIASES` contains 0x00 (R11). -/
def Config.aliasesHoldZero (cfg : Config) : Bool := cfg.nopAliases.contains 0x00

/-- `NOP_ALIASES` is a subset of the eight candidates (R11). -/
def Config.aliasesAmongCandidates (cfg : Config) : Bool := cfg.nopAliases.all nopCandidates.contains

/-- `CYCLE_COST` gives every opcode a cost (R11, R92). -/
def Config.costsEveryOpcode (cfg : Config) : Bool := cfg.cycleCost.length == 256

/-- The parameters are admissible: every constraint of R11. -/
def Config.admissible (cfg : Config) : Bool :=
  cfg.devicesDistinct && cfg.aliasesFour && cfg.aliasesHoldZero && cfg.aliasesAmongCandidates && cfg.costsEveryOpcode

/-- Every term of `Instr` is a well-formed instruction: the one operand there is, a 16-bit address, may be any word
(20_memory.md R50), and its type holds nothing else. -/
def Instr.wellFormed : Instr → Bool := fun _ => true

end Sys2Proof
end

