-- ==== Sys2Proof/Decode.lean ====
section
/-! DEFINITION. The instruction table (30_encoding.md R87 to R93), the decoder (R84, R94) and the encoder.
The opcode map is written as the spec writes it, sixteen rows of sixteen cells: once as mnemonics and sizes, once as
instructions. -/

namespace Sys2Proof

/-- `hi ++ lo`: a 16-bit value with `hi` in bits 15:8 (R12, R84). -/
def joinBytes (hi lo : Byte) : Word := hi ++ lo

/-- Bits 7:0 of a word (R83). -/
def lowByte (w : Word) : Byte := w.extractLsb' 0 8

/-- Bits 15:8 of a word (R83). -/
def highByte (w : Word) : Byte := w.extractLsb' 8 8

/-! ### The descriptors -/

/-- Row 0x of the map of R93: mnemonic and size of each opcode. -/
def mapRow0 : List (String × Nat) :=
  [("NOP", 1), ("LXI B,d16", 3), ("STAX B", 1), ("INX B", 1),
   ("INR B", 1), ("DCR B", 1), ("MVI B,d8", 2), ("RLC", 1),
   ("NOP", 1), ("DAD B", 1), ("LDAX B", 1), ("DCX B", 1),
   ("INR C", 1), ("DCR C", 1), ("MVI C,d8", 2), ("RRC", 1)]

/-- Row 1x of the map of R93: mnemonic and size of each opcode. -/
def mapRow1 : List (String × Nat) :=
  [("NOP", 1), ("LXI D,d16", 3), ("STAX D", 1), ("INX D", 1),
   ("INR D", 1), ("DCR D", 1), ("MVI D,d8", 2), ("RAL", 1),
   ("NOP", 1), ("DAD D", 1), ("LDAX D", 1), ("DCX D", 1),
   ("INR E", 1), ("DCR E", 1), ("MVI E,d8", 2), ("RAR", 1)]

/-- Row 2x of the map of R93: mnemonic and size of each opcode. -/
def mapRow2 : List (String × Nat) :=
  [("NOP", 1), ("LXI H,d16", 3), ("SHLD a16", 3), ("INX H", 1),
   ("INR H", 1), ("DCR H", 1), ("MVI H,d8", 2), ("DAA", 1),
   ("NOP", 1), ("DAD H", 1), ("LHLD a16", 3), ("DCX H", 1),
   ("INR L", 1), ("DCR L", 1), ("MVI L,d8", 2), ("CMA", 1)]

/-- Row 3x of the map of R93: mnemonic and size of each opcode. -/
def mapRow3 : List (String × Nat) :=
  [("NOP", 1), ("LXI SP,d16", 3), ("STA a16", 3), ("INX SP", 1),
   ("INR M", 1), ("DCR M", 1), ("MVI M,d8", 2), ("STC", 1),
   ("NOP", 1), ("DAD SP", 1), ("LDA a16", 3), ("DCX SP", 1),
   ("INR A", 1), ("DCR A", 1), ("MVI A,d8", 2), ("CMC", 1)]

/-- Row 4x of the map of R93: mnemonic and size of each opcode. -/
def mapRow4 : List (String × Nat) :=
  [("MOV B,B", 1), ("MOV B,C", 1), ("MOV B,D", 1), ("MOV B,E", 1),
   ("MOV B,H", 1), ("MOV B,L", 1), ("MOV B,M", 1), ("MOV B,A", 1),
   ("MOV C,B", 1), ("MOV C,C", 1), ("MOV C,D", 1), ("MOV C,E", 1),
   ("MOV C,H", 1), ("MOV C,L", 1), ("MOV C,M", 1), ("MOV C,A", 1)]

/-- Row 5x of the map of R93: mnemonic and size of each opcode. -/
def mapRow5 : List (String × Nat) :=
  [("MOV D,B", 1), ("MOV D,C", 1), ("MOV D,D", 1), ("MOV D,E", 1),
   ("MOV D,H", 1), ("MOV D,L", 1), ("MOV D,M", 1), ("MOV D,A", 1),
   ("MOV E,B", 1), ("MOV E,C", 1), ("MOV E,D", 1), ("MOV E,E", 1),
   ("MOV E,H", 1), ("MOV E,L", 1), ("MOV E,M", 1), ("MOV E,A", 1)]

/-- Row 6x of the map of R93: mnemonic and size of each opcode. -/
def mapRow6 : List (String × Nat) :=
  [("MOV H,B", 1), ("MOV H,C", 1), ("MOV H,D", 1), ("MOV H,E", 1),
   ("MOV H,H", 1), ("MOV H,L", 1), ("MOV H,M", 1), ("MOV H,A", 1),
   ("MOV L,B", 1), ("MOV L,C", 1), ("MOV L,D", 1), ("MOV L,E", 1),
   ("MOV L,H", 1), ("MOV L,L", 1), ("MOV L,M", 1), ("MOV L,A", 1)]

/-- Row 7x of the map of R93: mnemonic and size of each opcode. -/
def mapRow7 : List (String × Nat) :=
  [("MOV M,B", 1), ("MOV M,C", 1), ("MOV M,D", 1), ("MOV M,E", 1),
   ("MOV M,H", 1), ("MOV M,L", 1), ("HLT", 1), ("MOV M,A", 1),
   ("MOV A,B", 1), ("MOV A,C", 1), ("MOV A,D", 1), ("MOV A,E", 1),
   ("MOV A,H", 1), ("MOV A,L", 1), ("MOV A,M", 1), ("MOV A,A", 1)]

/-- Row 8x of the map of R93: mnemonic and size of each opcode. -/
def mapRow8 : List (String × Nat) :=
  [("ADD B", 1), ("ADD C", 1), ("ADD D", 1), ("ADD E", 1),
   ("ADD H", 1), ("ADD L", 1), ("ADD M", 1), ("ADD A", 1),
   ("ADC B", 1), ("ADC C", 1), ("ADC D", 1), ("ADC E", 1),
   ("ADC H", 1), ("ADC L", 1), ("ADC M", 1), ("ADC A", 1)]

/-- Row 9x of the map of R93: mnemonic and size of each opcode. -/
def mapRow9 : List (String × Nat) :=
  [("SUB B", 1), ("SUB C", 1), ("SUB D", 1), ("SUB E", 1),
   ("SUB H", 1), ("SUB L", 1), ("SUB M", 1), ("SUB A", 1),
   ("SBB B", 1), ("SBB C", 1), ("SBB D", 1), ("SBB E", 1),
   ("SBB H", 1), ("SBB L", 1), ("SBB M", 1), ("SBB A", 1)]

/-- Row Ax of the map of R93: mnemonic and size of each opcode. -/
def mapRowA : List (String × Nat) :=
  [("ANA B", 1), ("ANA C", 1), ("ANA D", 1), ("ANA E", 1),
   ("ANA H", 1), ("ANA L", 1), ("ANA M", 1), ("ANA A", 1),
   ("XRA B", 1), ("XRA C", 1), ("XRA D", 1), ("XRA E", 1),
   ("XRA H", 1), ("XRA L", 1), ("XRA M", 1), ("XRA A", 1)]

/-- Row Bx of the map of R93: mnemonic and size of each opcode. -/
def mapRowB : List (String × Nat) :=
  [("ORA B", 1), ("ORA C", 1), ("ORA D", 1), ("ORA E", 1),
   ("ORA H", 1), ("ORA L", 1), ("ORA M", 1), ("ORA A", 1),
   ("CMP B", 1), ("CMP C", 1), ("CMP D", 1), ("CMP E", 1),
   ("CMP H", 1), ("CMP L", 1), ("CMP M", 1), ("CMP A", 1)]

/-- Row Cx of the map of R93: mnemonic and size of each opcode. -/
def mapRowC : List (String × Nat) :=
  [("RNZ", 1), ("POP B", 1), ("JNZ a16", 3), ("JMP a16", 3),
   ("CNZ a16", 3), ("PUSH B", 1), ("ADI d8", 2), ("RST 0", 1),
   ("RZ", 1), ("RET", 1), ("JZ a16", 3), ("JMP a16", 3),
   ("CZ a16", 3), ("CALL a16", 3), ("ACI d8", 2), ("RST 1", 1)]

/-- Row Dx of the map of R93: mnemonic and size of each opcode. -/
def mapRowD : List (String × Nat) :=
  [("RNC", 1), ("POP D", 1), ("JNC a16", 3), ("OUT d8", 2),
   ("CNC a16", 3), ("PUSH D", 1), ("SUI d8", 2), ("RST 2", 1),
   ("RC", 1), ("RET", 1), ("JC a16", 3), ("IN d8", 2),
   ("CC a16", 3), ("CALL a16", 3), ("SBI d8", 2), ("RST 3", 1)]

/-- Row Ex of the map of R93: mnemonic and size of each opcode. -/
def mapRowE : List (String × Nat) :=
  [("RPO", 1), ("POP H", 1), ("JPO a16", 3), ("XTHL", 1),
   ("CPO a16", 3), ("PUSH H", 1), ("ANI d8", 2), ("RST 4", 1),
   ("RPE", 1), ("PCHL", 1), ("JPE a16", 3), ("XCHG", 1),
   ("CPE a16", 3), ("CALL a16", 3), ("XRI d8", 2), ("RST 5", 1)]

/-- Row Fx of the map of R93: mnemonic and size of each opcode. -/
def mapRowF : List (String × Nat) :=
  [("RP", 1), ("POP PSW", 1), ("JP a16", 3), ("DI", 1),
   ("CP a16", 3), ("PUSH PSW", 1), ("ORI d8", 2), ("RST 6", 1),
   ("RM", 1), ("SPHL", 1), ("JM a16", 3), ("EI", 1),
   ("CM a16", 3), ("CALL a16", 3), ("CPI d8", 2), ("RST 7", 1)]

/-- The full opcode map (R93), in opcode order. -/
def opcodeMap : List (String × Nat) :=
  mapRow0 ++ (mapRow1 ++ (mapRow2 ++ (mapRow3 ++ (mapRow4 ++ (mapRow5 ++ (mapRow6 ++ (mapRow7 ++ (mapRow8 ++ (mapRow9 ++ (mapRowA ++ (mapRowB ++ (mapRowC ++ (mapRowD ++ (mapRowE ++ (mapRowF)))))))))))))))

/-- `mnemonic_of` (R88): diagnostic only, no behavioural effect (R87). -/
def mnemonicOfOpcode (op : Byte) : String := (opcodeMap.getD op.toNat ("", 1)).1

/-- `size_of` (R88): the instruction's size in bytes, 1, 2 or 3 (R80). -/
def sizeOfOpcode (op : Byte) : Nat := (opcodeMap.getD op.toNat ("", 1)).2

/-- `cycles_of` (R88): the parameter `CYCLE_COST` (R92). -/
def cyclesOfOpcode (cfg : Config) (op : Byte) : Nat := cfg.cycleCost.getD op.toNat 0

/-- The execution rule of an opcode if every NOP-alias candidate were a NOP (R89 to R91). -/
def baseRuleOf (op : Byte) : ExecRule :=
  if op = 0x32#8 then .storeA
  else if op = 0x3A#8 then .loadA
  else if op = 0x47#8 then .moveBA
  else if op = 0x76#8 then .halt
  else if op = 0x80#8 then .addB
  else if nopCandidates.contains op then .nop
  else .unimplemented

/-- The execution rule of an opcode (R89 to R91): a candidate other than 0x00 that is not in `NOP_ALIASES` is unimplemented. -/
def ruleOf (cfg : Config) (op : Byte) : ExecRule :=
  if baseRuleOf op = .nop ∧ op ≠ 0x00#8 ∧ cfg.nopAliases.contains op = false then .unimplemented
  else baseRuleOf op

/-- A descriptor of the instruction table (R87). -/
structure Descriptor where
  mnemonic : String
  size : Nat
  cycles : Nat
  rule : ExecRule
deriving DecidableEq, Repr

/-- The instruction table: "a total, immutable mapping from each of the 256 opcode values to a descriptor" (R87). -/
def descriptorOf (cfg : Config) (op : Byte) : Descriptor :=
  ⟨mnemonicOfOpcode op, sizeOfOpcode op, cyclesOfOpcode cfg op, ruleOf cfg op⟩

/-- How many operand bytes follow the opcode in the instruction stream (R84, R94): `size - 1` for an opcode that can have
an execution rule, none for one that cannot, since its fault comes before any operand fetch (R91, R106). -/
def operandCount (op : Byte) : Nat :=
  match baseRuleOf op with
  | .unimplemented => 0
  | _ => sizeOfOpcode op - 1

/-! ### Decoding -/

/-- Operand assembly (R82 to R84): no byte, one byte used directly, or low byte then high byte of an address. -/
def operandOfBytes : List Byte → Operand
  | [b] => .imm8 b
  | lo :: hi :: _ => .addr16 (joinBytes hi lo)
  | [] => .none

/-- The 16-bit address an operand holds; only format F3 has one (R83). -/
def operandAddress : Operand → Word
  | .addr16 a => a
  | _ => 0

/-- Row 0x of the map of R93 as instructions. -/
def instrRow0 : List Instr :=
  [.nop, .lxiBD16, .staxB, .inxB, .inrB, .dcrB, .mviBD8, .rlc,
   .nop08, .dadB, .ldaxB, .dcxB, .inrC, .dcrC, .mviCD8, .rrc]

/-- Row 1x of the map of R93 as instructions. -/
def instrRow1 : List Instr :=
  [.nop10, .lxiDD16, .staxD, .inxD, .inrD, .dcrD, .mviDD8, .ral,
   .nop18, .dadD, .ldaxD, .dcxD, .inrE, .dcrE, .mviED8, .rar]

/-- Row 2x of the map of R93 as instructions. -/
def instrRow2 : List Instr :=
  [.nop20, .lxiHD16, .shldA16, .inxH, .inrH, .dcrH, .mviHD8, .daa,
   .nop28, .dadH, .lhldA16, .dcxH, .inrL, .dcrL, .mviLD8, .cma]

/-- Row 3x of the map of R93 as instructions. -/
def instrRow3 (a : Word) : List Instr :=
  [.nop30, .lxiSpD16, .sta a, .inxSp, .inrM, .dcrM, .mviMD8, .stc,
   .nop38, .dadSp, .lda a, .dcxSp, .inrA, .dcrA, .mviAD8, .cmc]

/-- Row 4x of the map of R93 as instructions. -/
def instrRow4 : List Instr :=
  [.movBB, .movBC, .movBD, .movBE, .movBH, .movBL, .movBM, .movBA,
   .movCB, .movCC, .movCD, .movCE, .movCH, .movCL, .movCM, .movCA]

/-- Row 5x of the map of R93 as instructions. -/
def instrRow5 : List Instr :=
  [.movDB, .movDC, .movDD, .movDE, .movDH, .movDL, .movDM, .movDA,
   .movEB, .movEC, .movED, .movEE, .movEH, .movEL, .movEM, .movEA]

/-- Row 6x of the map of R93 as instructions. -/
def instrRow6 : List Instr :=
  [.movHB, .movHC, .movHD, .movHE, .movHH, .movHL, .movHM, .movHA,
   .movLB, .movLC, .movLD, .movLE, .movLH, .movLL, .movLM, .movLA]

/-- Row 7x of the map of R93 as instructions. -/
def instrRow7 : List Instr :=
  [.movMB, .movMC, .movMD, .movME, .movMH, .movML, .hlt, .movMA,
   .movAB, .movAC, .movAD, .movAE, .movAH, .movAL, .movAM, .movAA]

/-- Row 8x of the map of R93 as instructions. -/
def instrRow8 : List Instr :=
  [.addB, .addC, .addD, .addE, .addH, .addL, .addM, .addA,
   .adcB, .adcC, .adcD, .adcE, .adcH, .adcL, .adcM, .adcA]

/-- Row 9x of the map of R93 as instructions. -/
def instrRow9 : List Instr :=
  [.subB, .subC, .subD, .subE, .subH, .subL, .subM, .subA,
   .sbbB, .sbbC, .sbbD, .sbbE, .sbbH, .sbbL, .sbbM, .sbbA]

/-- Row Ax of the map of R93 as instructions. -/
def instrRowA : List Instr :=
  [.anaB, .anaC, .anaD, .anaE, .anaH, .anaL, .anaM, .anaA,
   .xraB, .xraC, .xraD, .xraE, .xraH, .xraL, .xraM, .xraA]

/-- Row Bx of the map of R93 as instructions. -/
def instrRowB : List Instr :=
  [.oraB, .oraC, .oraD, .oraE, .oraH, .oraL, .oraM, .oraA,
   .cmpB, .cmpC, .cmpD, .cmpE, .cmpH, .cmpL, .cmpM, .cmpA]

/-- Row Cx of the map of R93 as instructions. -/
def instrRowC : List Instr :=
  [.rnz, .popB, .jnzA16, .jmpA16, .cnzA16, .pushB, .adiD8, .rst0,
   .rz, .ret, .jzA16, .jmpA16XCB, .czA16, .callA16, .aciD8, .rst1]

/-- Row Dx of the map of R93 as instructions. -/
def instrRowD : List Instr :=
  [.rnc, .popD, .jncA16, .outD8, .cncA16, .pushD, .suiD8, .rst2,
   .rc, .retXD9, .jcA16, .inD8, .ccA16, .callA16XDD, .sbiD8, .rst3]

/-- Row Ex of the map of R93 as instructions. -/
def instrRowE : List Instr :=
  [.rpo, .popH, .jpoA16, .xthl, .cpoA16, .pushH, .aniD8, .rst4,
   .rpe, .pchl, .jpeA16, .xchg, .cpeA16, .callA16XED, .xriD8, .rst5]

/-- Row Fx of the map of R93 as instructions. -/
def instrRowF : List Instr :=
  [.rp, .popPsw, .jpA16, .di, .cpA16, .pushPsw, .oriD8, .rst6,
   .rm, .sphl, .jmA16, .ei, .cmA16, .callA16XFD, .cpiD8, .rst7]

/-- The opcode map as instructions, in opcode order, with operand address `a` where the opcode takes one. -/
def instrMap (a : Word) : List Instr :=
  instrRow0 ++ (instrRow1 ++ (instrRow2 ++ (instrRow3 a ++ (instrRow4 ++ (instrRow5 ++ (instrRow6 ++ (instrRow7 ++ (instrRow8 ++ (instrRow9 ++ (instrRowA ++ (instrRowB ++ (instrRowC ++ (instrRowD ++ (instrRowE ++ (instrRowF)))))))))))))))

/-- The map has one instruction for each of the 256 opcodes (R87). -/
theorem instrMap_length (a : Word) : (instrMap a).length = 256 := by
  simp only [instrMap, List.length_append, instrRow0, instrRow1, instrRow2, instrRow3, instrRow4, instrRow5, instrRow6, instrRow7,
    instrRow8, instrRow9, instrRowA, instrRowB, instrRowC, instrRowD, instrRowE, instrRowF, List.length_cons, List.length_nil]

/-- Decoding is total on any opcode byte (R94): the opcode's cell of the map. -/
def decodeOpcode (op : Byte) (o : Operand) : Instr :=
  (instrMap (operandAddress o))[op.toNat]'(by rw [instrMap_length]; exact op.isLt)

/-- Why a sequence of bytes is no instruction. -/
inductive DecodeError where
  /-- There is no opcode byte. -/
  | noOpcode
  /-- The opcode is there, but the operand bytes it takes are not. -/
  | operandMissing
deriving DecidableEq, Repr

/-- What the decoder answers: an instruction and the bytes after it, or why there is none. -/
inductive Decoded where
  | instr (i : Instr) (rest : List Byte)
  | rejected (why : DecodeError)
deriving DecidableEq, Repr

/-- The decoder (R94): the first instruction of a sequence of bytes, and the bytes after it. -/
def decode : List Byte → Decoded
  | [] => .rejected .noOpcode
  | op :: rest =>
    if rest.length < operandCount op then .rejected .operandMissing
    else .instr (decodeOpcode op (operandOfBytes (rest.take (operandCount op)))) (rest.drop (operandCount op))

/-- The little-endian bytes of a number: byte k is bits 8k+7 to 8k. -/
def bytesOfNat : Nat → Nat → List Byte
  | 0, _ => []
  | n + 1, w => BitVec.ofNat 8 w :: bytesOfNat n (w / 256)

/-- The most bytes an instruction has (R80). -/
def longestInstr : Nat := 3

/-- The instruction's bytes from the opcode table's bit numbering: bit 0 is bit 0 of the first byte; every bit from
`nbits` on is 0, up to the longest instruction. -/
def tableWordBytes (nbits w : Nat) : List Byte := bytesOfNat longestInstr (w % 2 ^ nbits)

/-- The instruction the decoder reads from an instruction whose bits are `w`, numbered as spec/opcode_table.json
numbers them (see `tableWordBytes`). -/
def decodeTableWord (nbits w : Nat) : Option Instr :=
  match decode (tableWordBytes nbits w) with
  | .instr i _ => some i
  | .rejected _ => none

/-! ### Encoding -/

/-- The opcode byte of each instruction (R89, R90, R93). -/
def opcodeOf : Instr → Byte
  | .nop => 0x00#8
  | .lxiBD16 => 0x01#8
  | .staxB => 0x02#8
  | .inxB => 0x03#8
  | .inrB => 0x04#8
  | .dcrB => 0x05#8
  | .mviBD8 => 0x06#8
  | .rlc => 0x07#8
  | .nop08 => 0x08#8
  | .dadB => 0x09#8
  | .ldaxB => 0x0A#8
  | .dcxB => 0x0B#8
  | .inrC => 0x0C#8
  | .dcrC => 0x0D#8
  | .mviCD8 => 0x0E#8
  | .rrc => 0x0F#8
  | .nop10 => 0x10#8
  | .lxiDD16 => 0x11#8
  | .staxD => 0x12#8
  | .inxD => 0x13#8
  | .inrD => 0x14#8
  | .dcrD => 0x15#8
  | .mviDD8 => 0x16#8
  | .ral => 0x17#8
  | .nop18 => 0x18#8
  | .dadD => 0x19#8
  | .ldaxD => 0x1A#8
  | .dcxD => 0x1B#8
  | .inrE => 0x1C#8
  | .dcrE => 0x1D#8
  | .mviED8 => 0x1E#8
  | .rar => 0x1F#8
  | .nop20 => 0x20#8
  | .lxiHD16 => 0x21#8
  | .shldA16 => 0x22#8
  | .inxH => 0x23#8
  | .inrH => 0x24#8
  | .dcrH => 0x25#8
  | .mviHD8 => 0x26#8
  | .daa => 0x27#8
  | .nop28 => 0x28#8
  | .dadH => 0x29#8
  | .lhldA16 => 0x2A#8
  | .dcxH => 0x2B#8
  | .inrL => 0x2C#8
  | .dcrL => 0x2D#8
  | .mviLD8 => 0x2E#8
  | .cma => 0x2F#8
  | .nop30 => 0x30#8
  | .lxiSpD16 => 0x31#8
  | .sta _ => 0x32#8
  | .inxSp => 0x33#8
  | .inrM => 0x34#8
  | .dcrM => 0x35#8
  | .mviMD8 => 0x36#8
  | .stc => 0x37#8
  | .nop38 => 0x38#8
  | .dadSp => 0x39#8
  | .lda _ => 0x3A#8
  | .dcxSp => 0x3B#8
  | .inrA => 0x3C#8
  | .dcrA => 0x3D#8
  | .mviAD8 => 0x3E#8
  | .cmc => 0x3F#8
  | .movBB => 0x40#8
  | .movBC => 0x41#8
  | .movBD => 0x42#8
  | .movBE => 0x43#8
  | .movBH => 0x44#8
  | .movBL => 0x45#8
  | .movBM => 0x46#8
  | .movBA => 0x47#8
  | .movCB => 0x48#8
  | .movCC => 0x49#8
  | .movCD => 0x4A#8
  | .movCE => 0x4B#8
  | .movCH => 0x4C#8
  | .movCL => 0x4D#8
  | .movCM => 0x4E#8
  | .movCA => 0x4F#8
  | .movDB => 0x50#8
  | .movDC => 0x51#8
  | .movDD => 0x52#8
  | .movDE => 0x53#8
  | .movDH => 0x54#8
  | .movDL => 0x55#8
  | .movDM => 0x56#8
  | .movDA => 0x57#8
  | .movEB => 0x58#8
  | .movEC => 0x59#8
  | .movED => 0x5A#8
  | .movEE => 0x5B#8
  | .movEH => 0x5C#8
  | .movEL => 0x5D#8
  | .movEM => 0x5E#8
  | .movEA => 0x5F#8
  | .movHB => 0x60#8
  | .movHC => 0x61#8
  | .movHD => 0x62#8
  | .movHE => 0x63#8
  | .movHH => 0x64#8
  | .movHL => 0x65#8
  | .movHM => 0x66#8
  | .movHA => 0x67#8
  | .movLB => 0x68#8
  | .movLC => 0x69#8
  | .movLD => 0x6A#8
  | .movLE => 0x6B#8
  | .movLH => 0x6C#8
  | .movLL => 0x6D#8
  | .movLM => 0x6E#8
  | .movLA => 0x6F#8
  | .movMB => 0x70#8
  | .movMC => 0x71#8
  | .movMD => 0x72#8
  | .movME => 0x73#8
  | .movMH => 0x74#8
  | .movML => 0x75#8
  | .hlt => 0x76#8
  | .movMA => 0x77#8
  | .movAB => 0x78#8
  | .movAC => 0x79#8
  | .movAD => 0x7A#8
  | .movAE => 0x7B#8
  | .movAH => 0x7C#8
  | .movAL => 0x7D#8
  | .movAM => 0x7E#8
  | .movAA => 0x7F#8
  | .addB => 0x80#8
  | .addC => 0x81#8
  | .addD => 0x82#8
  | .addE => 0x83#8
  | .addH => 0x84#8
  | .addL => 0x85#8
  | .addM => 0x86#8
  | .addA => 0x87#8
  | .adcB => 0x88#8
  | .adcC => 0x89#8
  | .adcD => 0x8A#8
  | .adcE => 0x8B#8
  | .adcH => 0x8C#8
  | .adcL => 0x8D#8
  | .adcM => 0x8E#8
  | .adcA => 0x8F#8
  | .subB => 0x90#8
  | .subC => 0x91#8
  | .subD => 0x92#8
  | .subE => 0x93#8
  | .subH => 0x94#8
  | .subL => 0x95#8
  | .subM => 0x96#8
  | .subA => 0x97#8
  | .sbbB => 0x98#8
  | .sbbC => 0x99#8
  | .sbbD => 0x9A#8
  | .sbbE => 0x9B#8
  | .sbbH => 0x9C#8
  | .sbbL => 0x9D#8
  | .sbbM => 0x9E#8
  | .sbbA => 0x9F#8
  | .anaB => 0xA0#8
  | .anaC => 0xA1#8
  | .anaD => 0xA2#8
  | .anaE => 0xA3#8
  | .anaH => 0xA4#8
  | .anaL => 0xA5#8
  | .anaM => 0xA6#8
  | .anaA => 0xA7#8
  | .xraB => 0xA8#8
  | .xraC => 0xA9#8
  | .xraD => 0xAA#8
  | .xraE => 0xAB#8
  | .xraH => 0xAC#8
  | .xraL => 0xAD#8
  | .xraM => 0xAE#8
  | .xraA => 0xAF#8
  | .oraB => 0xB0#8
  | .oraC => 0xB1#8
  | .oraD => 0xB2#8
  | .oraE => 0xB3#8
  | .oraH => 0xB4#8
  | .oraL => 0xB5#8
  | .oraM => 0xB6#8
  | .oraA => 0xB7#8
  | .cmpB => 0xB8#8
  | .cmpC => 0xB9#8
  | .cmpD => 0xBA#8
  | .cmpE => 0xBB#8
  | .cmpH => 0xBC#8
  | .cmpL => 0xBD#8
  | .cmpM => 0xBE#8
  | .cmpA => 0xBF#8
  | .rnz => 0xC0#8
  | .popB => 0xC1#8
  | .jnzA16 => 0xC2#8
  | .jmpA16 => 0xC3#8
  | .cnzA16 => 0xC4#8
  | .pushB => 0xC5#8
  | .adiD8 => 0xC6#8
  | .rst0 => 0xC7#8
  | .rz => 0xC8#8
  | .ret => 0xC9#8
  | .jzA16 => 0xCA#8
  | .jmpA16XCB => 0xCB#8
  | .czA16 => 0xCC#8
  | .callA16 => 0xCD#8
  | .aciD8 => 0xCE#8
  | .rst1 => 0xCF#8
  | .rnc => 0xD0#8
  | .popD => 0xD1#8
  | .jncA16 => 0xD2#8
  | .outD8 => 0xD3#8
  | .cncA16 => 0xD4#8
  | .pushD => 0xD5#8
  | .suiD8 => 0xD6#8
  | .rst2 => 0xD7#8
  | .rc => 0xD8#8
  | .retXD9 => 0xD9#8
  | .jcA16 => 0xDA#8
  | .inD8 => 0xDB#8
  | .ccA16 => 0xDC#8
  | .callA16XDD => 0xDD#8
  | .sbiD8 => 0xDE#8
  | .rst3 => 0xDF#8
  | .rpo => 0xE0#8
  | .popH => 0xE1#8
  | .jpoA16 => 0xE2#8
  | .xthl => 0xE3#8
  | .cpoA16 => 0xE4#8
  | .pushH => 0xE5#8
  | .aniD8 => 0xE6#8
  | .rst4 => 0xE7#8
  | .rpe => 0xE8#8
  | .pchl => 0xE9#8
  | .jpeA16 => 0xEA#8
  | .xchg => 0xEB#8
  | .cpeA16 => 0xEC#8
  | .callA16XED => 0xED#8
  | .xriD8 => 0xEE#8
  | .rst5 => 0xEF#8
  | .rp => 0xF0#8
  | .popPsw => 0xF1#8
  | .jpA16 => 0xF2#8
  | .di => 0xF3#8
  | .cpA16 => 0xF4#8
  | .pushPsw => 0xF5#8
  | .oriD8 => 0xF6#8
  | .rst6 => 0xF7#8
  | .rm => 0xF8#8
  | .sphl => 0xF9#8
  | .jmA16 => 0xFA#8
  | .ei => 0xFB#8
  | .cmA16 => 0xFC#8
  | .callA16XFD => 0xFD#8
  | .cpiD8 => 0xFE#8
  | .rst7 => 0xFF#8

/-- The operand bytes of each instruction, low byte first (R83); no row but LDA and STA has any in this hardware. -/
def operandBytesOf : Instr → List Byte
  | .lda a | .sta a => [lowByte a, highByte a]
  | _ => []

/-- The encoder: the opcode byte, then the operand bytes in address order (R80 to R84). -/
def encode (i : Instr) : List Byte := opcodeOf i :: operandBytesOf i

/-- The instruction is admitted by the block with these parameters (00_scope.md R3): its opcode has an execution rule. -/
def Instr.admitted (cfg : Config) (i : Instr) : Bool := ruleOf cfg (opcodeOf i) != .unimplemented

end Sys2Proof
end

