-- ==== Sys2Proof/Machine/Defaults.lean ====
section
/-! DEFINITION. The spec's default instantiation of the parameters (00_scope.md R11, 30_encoding.md R92). The values are
the spec's own choice (decisions D2, D3, D13, D14), not the source's: log entry 2. -/

namespace Sys2Proof.Machine

/-- Row 0x of the default `CYCLE_COST` (R92). -/
def costRow0 : List Nat := [4, 10, 7, 5, 5, 5, 7, 4, 4, 10, 7, 5, 5, 5, 7, 4]

/-- Row 1x of the default `CYCLE_COST` (R92). -/
def costRow1 : List Nat := [4, 10, 7, 5, 5, 5, 7, 4, 4, 10, 7, 5, 5, 5, 7, 4]

/-- Row 2x of the default `CYCLE_COST` (R92). -/
def costRow2 : List Nat := [4, 10, 16, 5, 5, 5, 7, 4, 4, 10, 16, 5, 5, 5, 7, 4]

/-- Row 3x of the default `CYCLE_COST` (R92). -/
def costRow3 : List Nat := [4, 10, 13, 5, 10, 10, 10, 4, 4, 10, 13, 5, 5, 5, 7, 4]

/-- Row 4x of the default `CYCLE_COST` (R92). -/
def costRow4 : List Nat := [5, 5, 5, 5, 5, 5, 7, 5, 5, 5, 5, 5, 5, 5, 7, 5]

/-- Row 5x of the default `CYCLE_COST` (R92). -/
def costRow5 : List Nat := [5, 5, 5, 5, 5, 5, 7, 5, 5, 5, 5, 5, 5, 5, 7, 5]

/-- Row 6x of the default `CYCLE_COST` (R92). -/
def costRow6 : List Nat := [5, 5, 5, 5, 5, 5, 7, 5, 5, 5, 5, 5, 5, 5, 7, 5]

/-- Row 7x of the default `CYCLE_COST` (R92). -/
def costRow7 : List Nat := [7, 7, 7, 7, 7, 7, 7, 7, 5, 5, 5, 5, 5, 5, 7, 5]

/-- Row 8x of the default `CYCLE_COST` (R92). -/
def costRow8 : List Nat := [4, 4, 4, 4, 4, 4, 7, 4, 4, 4, 4, 4, 4, 4, 7, 4]

/-- Row 9x of the default `CYCLE_COST` (R92). -/
def costRow9 : List Nat := [4, 4, 4, 4, 4, 4, 7, 4, 4, 4, 4, 4, 4, 4, 7, 4]

/-- Row Ax of the default `CYCLE_COST` (R92). -/
def costRowA : List Nat := [4, 4, 4, 4, 4, 4, 7, 4, 4, 4, 4, 4, 4, 4, 7, 4]

/-- Row Bx of the default `CYCLE_COST` (R92). -/
def costRowB : List Nat := [4, 4, 4, 4, 4, 4, 7, 4, 4, 4, 4, 4, 4, 4, 7, 4]

/-- Row Cx of the default `CYCLE_COST` (R92): where the table has two counts, the first (not taken). -/
def costRowC : List Nat := [5, 10, 10, 10, 11, 11, 7, 11, 5, 10, 10, 10, 11, 17, 7, 11]

/-- Row Dx of the default `CYCLE_COST` (R92): where the table has two counts, the first (not taken). -/
def costRowD : List Nat := [5, 10, 10, 10, 11, 11, 7, 11, 5, 10, 10, 10, 11, 17, 7, 11]

/-- Row Ex of the default `CYCLE_COST` (R92): where the table has two counts, the first (not taken). -/
def costRowE : List Nat := [5, 10, 10, 18, 11, 11, 7, 11, 5, 5, 10, 4, 11, 17, 7, 11]

/-- Row Fx of the default `CYCLE_COST` (R92): where the table has two counts, the first (not taken). -/
def costRowF : List Nat := [5, 10, 10, 4, 11, 11, 7, 11, 5, 5, 10, 4, 11, 17, 7, 11]

/-- The default `CYCLE_COST`: the Intel 8080 state counts (R92, decision D13). -/
def defaultCycleCost : List Nat :=
  costRow0 ++ (costRow1 ++ (costRow2 ++ (costRow3 ++ (costRow4 ++ (costRow5 ++ (costRow6 ++ (costRow7 ++ (costRow8 ++ (costRow9 ++ (costRowA ++ (costRowB ++ (costRowC ++ (costRowD ++ (costRowE ++ (costRowF)))))))))))))))

/-- The second count R92 lists for a conditional return or call ("taken"): diagnostic, no rule uses it. -/
def takenCycles (op : Byte) : Option Nat :=
  if op &&& 0xC7#8 = 0xC0#8 then some 11
  else if op &&& 0xC7#8 = 0xC4#8 then some 17
  else none

/-- The default instantiation of R11. -/
def defaultConfig : Config where
  inAddr := 0xFFFE
  outAddr := 0xFFFF
  nopAliases := [0x00, 0x08, 0x10, 0x18]
  cycleCost := defaultCycleCost
  flagPolicy := .unchanged

end Sys2Proof.Machine
end

