-- ==== Sys2Proof/Machine/Memory.lean ====
section
/-! DEFINITION. The backing buffer `Buf` (10_state.md R34, 20_memory.md R50): 65536 bytes, as a list of
(address, byte) cells in one canonical form. -/

namespace Sys2Proof.Machine

/-- What the buffer is held as: the cells whose byte differs from what an unlisted address reads as. -/
abbrev Memory := List Host.Cell

/-- What an unlisted address reads as. The spec leaves the bytes outside the image to the launch parameter `INIT_MEM`
(R37, R234); any buffer is some `Memory`, and this is only the byte that need not be listed (log entry 4). -/
def unlistedByte : Byte := 0x00

/-- How many addresses there are (R50). -/
def addressSpace : Nat := 65536

/-- The byte of the buffer at an address. -/
def memRead : Memory → Nat → Byte
  | [], _ => unlistedByte
  | (a, b) :: m, k => if k < a then unlistedByte else if k = a then b else memRead m k

/-- The buffer with one byte written, in canonical form. -/
def memWrite : Memory → Nat → Byte → Memory
  | [], k, v => if v = unlistedByte then [] else [(k, v)]
  | (a, b) :: m, k, v =>
    if k < a then (if v = unlistedByte then (a, b) :: m else (k, v) :: (a, b) :: m)
    else if k = a then (if v = unlistedByte then m else (k, v) :: m)
    else (a, b) :: memWrite m k v

/-- The buffer with consecutive bytes written from an address on, as an image load writes them (70_reset_and_hazards.md
R233); bytes past the end of the address space are not written. -/
def memWriteBytes (m : Memory) (k : Nat) : List Byte → Memory
  | [] => m
  | v :: vs => memWriteBytes (if k < addressSpace then memWrite m k v else m) (k + 1) vs

/-- The cells are at strictly rising addresses from `lo` on, inside the address space, and none holds the unlisted byte. -/
def memWfFrom : Nat → Memory → Bool
  | _, [] => true
  | lo, (a, b) :: m => decide (lo ≤ a) && decide (a < addressSpace) && (b != unlistedByte) && memWfFrom (a + 1) m

/-- The canonical form holds: equal buffers are equal lists. -/
def Memory.wf (m : Memory) : Bool := memWfFrom 0 m

end Sys2Proof.Machine
end

