-- ==== Sys2Proof/Machine/State.lean ====
section
/-! DEFINITION. The whole-machine state (10_state.md R20 to R40) as plain data, the state after construction (R37,
70_reset_and_hazards.md R230), and the reasons a step can stop. -/

namespace Sys2Proof.Machine

/-- The names of the seven 8-bit registers (R20). -/
inductive Reg where
  | a | b | c | d | e | h | l
deriving DecidableEq, Repr

/-- The register file's seven general registers (R20); HL is a view of `h` and `l`, not a field (R24, R39). -/
structure Regs where
  a : Byte
  b : Byte
  c : Byte
  d : Byte
  e : Byte
  h : Byte
  l : Byte
deriving DecidableEq, Repr

/-- The five condition flags, each a bit of its own (R27); the spec gives them no packed layout (R29). -/
structure Flags where
  s : Bool
  z : Bool
  ac : Bool
  p : Bool
  c : Bool
deriving DecidableEq, Repr

/-- The run status (R30). -/
inductive Status where
  | running
  | halted
  | faulted
deriving DecidableEq, Repr

/-- A fault a step raises and the state records (R32; 60_exceptions.md R201, R204). -/
inductive FaultRecord where
  | unimplementedOpcode (opcode : Byte) (pc : Word)
  | inputExhausted (addr : Word)
deriving DecidableEq, Repr

/-- The input stream `In` (R35, 20_memory.md R58). -/
structure InputStream where
  /-- What the host has supplied and no read has consumed, next byte first. -/
  pending : List Byte
  /-- The host has signalled the end of the stream. -/
  closed : Bool
deriving DecidableEq, Repr

/-- The state of the block (R39), with the parameters of R11 (log entry 1) and the counter of free bits (log entry 9). -/
structure State where
  /-- The parameters of the block (00_scope.md R11): no step changes them (R36). -/
  cfg : Config
  /-- `x[A]` to `x[L]` (R20). -/
  regs : Regs
  /-- The program counter (R25). -/
  pc : Word
  /-- The stack pointer (R26). -/
  sp : Word
  /-- The condition flags (R27). -/
  flags : Flags
  /-- The run status (R30). -/
  status : Status
  /-- The cycle counter, unbounded (R31). -/
  cycles : Nat
  /-- The fault record, `none` while the status is not Faulted (R32). -/
  fault : Option FaultRecord
  /-- The backing buffer `Buf` (R34). -/
  mem : Memory
  /-- The input stream `In` (R35). -/
  input : InputStream
  /-- The output stream `Out`, oldest byte first (R35, 20_memory.md R60). -/
  output : List Byte
  /-- How many free bits have been drawn: the model's own field, for the policy `havoc`. -/
  draws : Nat
deriving DecidableEq, Repr

/-- Why a step of the machine stops without a next state. -/
inductive Fault where
  /-- Raised by `step`, and by nothing else, when the status is Faulted: "no step is enabled from it"
  (40_fetch_decode_execute.md R119). Carries the fault record the state keeps. SAFE: the spec gives no step here. -/
  | stepNotEnabled (record : Option FaultRecord)
deriving DecidableEq, Repr

/-- Why an instruction has no meaning. -/
inductive Refusal where
  /-- Raised by an arm of `exec` whose instruction has no meaning yet; no arm is such. SAFE: nothing can be proved of
  an instruction so refused. -/
  | notModelled (mnemonic : String)
deriving DecidableEq, Repr

/-- The state after construction with given parameters, buffer and input stream: every register, flag, `cycles` and
`fault` at its value in R37, and `Out` empty (70_reset_and_hazards.md R230, R232). -/
def State.construct (cfg : Config) (buf : Memory) (input : InputStream) : State where
  cfg := cfg
  regs := ⟨0x00, 0x00, 0x00, 0x00, 0x00, 0x00, 0x00⟩
  pc := 0x0000
  sp := 0x0000
  flags := ⟨false, false, false, false, false⟩
  status := .running
  cycles := 0
  fault := none
  mem := buf
  input := input
  output := []
  draws := 0

/-- The machine right after construction: the default parameters (log entry 2), no byte of the buffer listed (log
entry 4), and an input stream on which the host has not acted yet (log entry 5). -/
def State.reset : State := State.construct defaultConfig [] ⟨[], false⟩

end Sys2Proof.Machine
end

