-- ==== Sys2Proof/Machine/Ops.lean ====
section
/-! DEFINITION. The named operations over registers, buffer and Bus (10_state.md, 20_memory.md), the pc advance, cycle
accounting and halt transition of a completed step (40_fetch_decode_execute.md R109, R113 to R115), and taking a fault
(R116). There is no return from a fault (60_exceptions.md R210). -/

namespace Sys2Proof.Machine

/-! ### Registers -/

/-- `x[r]` (00_scope.md R13). -/
def getReg (r : Reg) (s : State) : Byte :=
  match r with
  | .a => s.regs.a
  | .b => s.regs.b
  | .c => s.regs.c
  | .d => s.regs.d
  | .e => s.regs.e
  | .h => s.regs.h
  | .l => s.regs.l

/-- `x[r] <- v` (00_scope.md R13). -/
def setReg (r : Reg) (v : Byte) (s : State) : State :=
  match r with
  | .a => { s with regs := { s.regs with a := v } }
  | .b => { s with regs := { s.regs with b := v } }
  | .c => { s with regs := { s.regs with c := v } }
  | .d => { s with regs := { s.regs with d := v } }
  | .e => { s with regs := { s.regs with e := v } }
  | .h => { s with regs := { s.regs with h := v } }
  | .l => { s with regs := { s.regs with l := v } }

/-- Reading the HL view: H in bits 15:8 (R24). -/
def getHL (s : State) : Word := joinBytes (getReg .h s) (getReg .l s)

/-- Writing the HL view: both halves (R24). -/
def setHL (v : Word) (s : State) : State := setReg .l (lowByte v) (setReg .h (highByte v) s)

/-! ### Buffer and Bus -/

/-- `Buf[a]`: the buffer's byte, with no device interception (00_scope.md R13). -/
def readBuf (s : State) (a : Word) : Byte := memRead s.mem a.toNat

/-- `Buf[a] <- v`, with no device interception. -/
def writeBuf (a : Word) (v : Byte) (s : State) : State := { s with mem := memWrite s.mem a.toNat v }

/-- What an action that reads through the Bus answers, from 20_memory.md R54. -/
inductive BusResult (α : Type) where
  /-- A value, and the state with the input bytes read so far consumed. -/
  | ok (v : α) (t : State)
  /-- No byte is there and the stream is open (R59). -/
  | hold
  /-- A fault was raised, in a state with the input bytes read before it consumed. -/
  | raised (f : FaultRecord) (t : State)
deriving DecidableEq, Repr

/-- A read at this address would hold: the input device, nothing pending, the stream open (R59). -/
def readWaits (s : State) (a : Word) : Bool :=
  a == s.cfg.inAddr && s.input.pending.isEmpty && !s.input.closed

/-- `InputRead()` (R54): one byte of the stream, or hold (R59), or InputExhausted(IN_ADDR) (R61). -/
def inputRead (s : State) : BusResult Byte :=
  match s.input.pending with
  | b :: rest => .ok b { s with input := { s.input with pending := rest } }
  | [] => if s.input.closed then .raised (.inputExhausted s.cfg.inAddr) s else .hold

/-- `MemRead(addr, 1)`, the Bus read (R53). -/
def busRead (s : State) (a : Word) : BusResult Byte :=
  if a = s.cfg.inAddr then inputRead s else .ok (readBuf s a) s

/-- `MemWrite(addr, 1, v)`, the Bus write (R55): it never holds and never faults. -/
def busWrite (a : Word) (v : Byte) (s : State) : State :=
  if a = s.cfg.outAddr then { s with output := s.output ++ [v] } else writeBuf a v s

/-- `n` Bus reads at consecutive addresses, which wrap modulo 65536 (30_encoding.md R84), in address order (R62). -/
def busReads : Nat → Word → State → BusResult (List Byte)
  | 0, _, s => .ok [] s
  | n + 1, a, s =>
    match busRead s a with
    | .hold => .hold
    | .raised f t => .raised f t
    | .ok b t =>
      match busReads n (a + 1) t with
      | .hold => .hold
      | .raised f u => .raised f u
      | .ok bs u => .ok (b :: bs) u

/-! ### The parts of a step every instruction shares -/

/-- The pc advance: `pc <- trunc_16(pc + n)` (40_fetch_decode_execute.md R109). -/
def advancePc (n : Nat) (s : State) : State := { s with pc := s.pc + BitVec.ofNat 16 n }

/-- Cycle accounting: `cycles <- cycles + CYCLE_COST(op)` (R113). -/
def addCycles (op : Byte) (s : State) : State := { s with cycles := s.cycles + cyclesOfOpcode s.cfg op }

/-- The halt transition (R115). -/
def enterHalted (s : State) : State := { s with status := .halted }

/-- A completed instruction with opcode `op` and execute part `body` (R117): the pc advances by the instruction's size,
then the execute part runs, then its cycles are added. -/
def completeStep (op : Byte) (body : State → State) (s : State) : State :=
  addCycles op (body (advancePc (sizeOfOpcode op) s))

/-- Taking a fault (R116), on the state of the step that raised it: before its pc advance, with the input bytes it has
consumed gone. The status becomes Faulted and the fault is recorded; everything else stays. -/
def takeFault (f : FaultRecord) (s : State) : State := { s with status := .faulted, fault := some f }

/-- `raise UnimplementedOpcode(op, p)` (R106, 60_exceptions.md R201): the opcode, and the pc it was fetched at. -/
def raiseUnimplemented (op : Byte) (s : State) : State := takeFault (.unimplementedOpcode op s.pc) s

/-- The spec's number for a fault (60_exceptions.md R206): a label only. -/
def faultCode : FaultRecord → Nat
  | .unimplementedOpcode _ _ => 1
  | .inputExhausted _ => 2

end Sys2Proof.Machine
end

