-- ==== Sys2Proof/Machine/Flags.lean ====
section
/-! DEFINITION. The flag rules (43_arithmetic.md R160 to R164). -/

namespace Sys2Proof.Machine

/-- `flag[C]`: the exact sum of two bytes is above 255 (R161). -/
def carryOut (x y : Byte) : Bool := decide (x.toNat + y.toNat > 255)

/-- `flag[S]`: bit 7 of the 8-bit result (R162). -/
def signOf (v : Byte) : Bool := v.getLsbD 7

/-- `flag[Z]`: the 8-bit result is 0 (R163). -/
def zeroOf (v : Byte) : Bool := v == 0x00

/-- `flag[AC]` under the policy `intel8080`: the sum of the low nibbles is above 15 (R164). -/
def auxCarryOut (x y : Byte) : Bool := decide (x.toNat % 16 + y.toNat % 16 > 15)

/-- The number of 1 bits of a byte. -/
def onesOf (v : Byte) : Nat := ((List.range 8).filter v.getLsbD).length

/-- `flag[P]` under the policy `intel8080`: the number of 1 bits of the result is even (R164). -/
def parityOf (v : Byte) : Bool := onesOf v % 2 == 0

/-- AC and P after an addition of `x` and `y` with result `v`, by `FLAG_AC_P_POLICY` (R164): kept, two free bits, or the
Intel 8080's rule. -/
def setAuxParity (x y v : Byte) (s : State) : State :=
  match s.cfg.flagPolicy with
  | .unchanged => s
  | .havoc =>
    { s with
      flags := { s.flags with ac := Config.freeBit s.draws, p := Config.freeBit (s.draws + 1) }
      draws := s.draws + 2 }
  | .intel8080 => { s with flags := { s.flags with ac := auxCarryOut x y, p := parityOf v } }

/-- The flags after an addition of `x` and `y` (R160): C from the exact sum, S and Z from the 8-bit result, AC and P by
the policy. -/
def setAddFlags (x y : Byte) (s : State) : State :=
  setAuxParity x y (x + y)
    { s with flags := { s.flags with c := carryOut x y, s := signOf (x + y), z := zeroOf (x + y) } }

end Sys2Proof.Machine
end

