-- ==== Sys2Proof/Machine/Arithmetic.lean ====
section
/-! DEFINITION. The arithmetic family: ADD B (43_arithmetic.md). -/

namespace Sys2Proof.Machine

/-- The execute part of ADD B (R168): both operands are read before A is written (R169). -/
def addBToA (s : State) : State :=
  setReg .a (getReg .a s + getReg .b s) (setAddFlags (getReg .a s) (getReg .b s) s)

/-- ADD B (R166 to R170). -/
def execAddB (s : State) : Host.Outcome State Fault Refusal :=
  .next (completeStep 0x80#8 addBToA s)

end Sys2Proof.Machine
end

