-- ==== Sys2Proof/Machine/DataTransfer.lean ====
section
/-! DEFINITION. The data transfer family: LDA a16, STA a16, MOV B,A (42_data_transfer.md). -/

namespace Sys2Proof.Machine

/-- STA a16 (R144 to R146): `MemWrite(addr, 1, x[A])` through the Bus. -/
def execSta (a : Word) (s : State) : Host.Outcome State Fault Refusal :=
  .next (completeStep 0x32#8 (fun t => busWrite a (getReg .a t) t) s)

/-- LDA a16 (R140 to R142): `x[A] <- MemRead(addr, 1)` through the Bus. A read that holds commits nothing
(40_fetch_decode_execute.md R105); a read of an exhausted stream takes the fault, and A keeps its value (R108). -/
def execLda (a : Word) (s : State) : Host.Outcome State Fault Refusal :=
  match busRead s a with
  | .hold => .next s
  | .raised f t => .next (takeFault f t)
  | .ok v t => .next (completeStep 0x3A#8 (setReg .a v) t)

/-- MOV B,A (R150): `x[B] <- x[A]`. -/
def execMovBA (s : State) : Host.Outcome State Fault Refusal :=
  .next (completeStep 0x47#8 (fun t => setReg .b (getReg .a t) t) s)

end Sys2Proof.Machine
end

