-- ==== Sys2Proof/Machine/MachineControl.lean ====
section
/-! DEFINITION. The machine control family: HLT (44_machine_control.md). -/

namespace Sys2Proof.Machine

/-- HLT (R180 to R184): no effect of its own; after its cycles are added the status becomes Halted (R182). -/
def execHlt (s : State) : Host.Outcome State Fault Refusal :=
  .next (enterHalted (completeStep 0x76#8 id s))

end Sys2Proof.Machine
end

