-- ==== Sys2Proof/Machine/NoOperation.lean ====
section
/-! DEFINITION. The no-operation family: NOP and the NOP-alias candidates (41_no_operation.md, 30_encoding.md R90). -/

namespace Sys2Proof.Machine

/-- NOP 0x00 (R130): only the pc and the cycle counter change. -/
def execNop (s : State) : Host.Outcome State Fault Refusal := .next (completeStep 0x00#8 id s)

/-- A candidate of R90: a NOP with its own cycle cost when it is in `NOP_ALIASES` (R131), else unimplemented (R202). -/
def nopCandidate (op : Byte) (s : State) : State :=
  if s.cfg.nopAliases.contains op then completeStep op id s else raiseUnimplemented op s

/-- The NOP-alias candidate 0x08 (R131). -/
def execNop08 (s : State) : Host.Outcome State Fault Refusal := .next (nopCandidate 0x08#8 s)

/-- The NOP-alias candidate 0x10 (R131). -/
def execNop10 (s : State) : Host.Outcome State Fault Refusal := .next (nopCandidate 0x10#8 s)

/-- The NOP-alias candidate 0x18 (R131). -/
def execNop18 (s : State) : Host.Outcome State Fault Refusal := .next (nopCandidate 0x18#8 s)

/-- The NOP-alias candidate 0x20 (R131). -/
def execNop20 (s : State) : Host.Outcome State Fault Refusal := .next (nopCandidate 0x20#8 s)

/-- The NOP-alias candidate 0x28 (R131). -/
def execNop28 (s : State) : Host.Outcome State Fault Refusal := .next (nopCandidate 0x28#8 s)

/-- The NOP-alias candidate 0x30 (R131). -/
def execNop30 (s : State) : Host.Outcome State Fault Refusal := .next (nopCandidate 0x30#8 s)

/-- The NOP-alias candidate 0x38 (R131). -/
def execNop38 (s : State) : Host.Outcome State Fault Refusal := .next (nopCandidate 0x38#8 s)

end Sys2Proof.Machine
end

