-- ==== Sys2Proof/Machine/Unimplemented.lean ====
section
/-! DEFINITION. The rows of the opcode map with the execution rule Unimplemented (30_encoding.md R91, R93): each takes the
fault UnimplementedOpcode(opcode, pc) at decode (40_fetch_decode_execute.md R106, R116; 60_exceptions.md R201 to R203).
No register, flag, memory byte or cycle changes. The names in the comments are diagnostic (R93). -/

namespace Sys2Proof.Machine

/-- 0x01 LXI B,d16 (R91, R106). -/
def execLxiBD16 (s : State) : Host.Outcome State Fault Refusal := .next (raiseUnimplemented 0x01#8 s)

/-- 0x02 STAX B (R91, R106). -/
def execStaxB (s : State) : Host.Outcome State Fault Refusal := .next (raiseUnimplemented 0x02#8 s)

/-- 0x03 INX B (R91, R106). -/
def execInxB (s : State) : Host.Outcome State Fault Refusal := .next (raiseUnimplemented 0x03#8 s)

/-- 0x04 INR B (R91, R106). -/
def execInrB (s : State) : Host.Outcome State Fault Refusal := .next (raiseUnimplemented 0x04#8 s)

/-- 0x05 DCR B (R91, R106). -/
def execDcrB (s : State) : Host.Outcome State Fault Refusal := .next (raiseUnimplemented 0x05#8 s)

/-- 0x06 MVI B,d8 (R91, R106). -/
def execMviBD8 (s : State) : Host.Outcome State Fault Refusal := .next (raiseUnimplemented 0x06#8 s)

/-- 0x07 RLC (R91, R106). -/
def execRlc (s : State) : Host.Outcome State Fault Refusal := .next (raiseUnimplemented 0x07#8 s)

/-- 0x09 DAD B (R91, R106). -/
def execDadB (s : State) : Host.Outcome State Fault Refusal := .next (raiseUnimplemented 0x09#8 s)

/-- 0x0A LDAX B (R91, R106). -/
def execLdaxB (s : State) : Host.Outcome State Fault Refusal := .next (raiseUnimplemented 0x0A#8 s)

/-- 0x0B DCX B (R91, R106). -/
def execDcxB (s : State) : Host.Outcome State Fault Refusal := .next (raiseUnimplemented 0x0B#8 s)

/-- 0x0C INR C (R91, R106). -/
def execInrC (s : State) : Host.Outcome State Fault Refusal := .next (raiseUnimplemented 0x0C#8 s)

/-- 0x0D DCR C (R91, R106). -/
def execDcrC (s : State) : Host.Outcome State Fault Refusal := .next (raiseUnimplemented 0x0D#8 s)

/-- 0x0E MVI C,d8 (R91, R106). -/
def execMviCD8 (s : State) : Host.Outcome State Fault Refusal := .next (raiseUnimplemented 0x0E#8 s)

/-- 0x0F RRC (R91, R106). -/
def execRrc (s : State) : Host.Outcome State Fault Refusal := .next (raiseUnimplemented 0x0F#8 s)

/-- 0x11 LXI D,d16 (R91, R106). -/
def execLxiDD16 (s : State) : Host.Outcome State Fault Refusal := .next (raiseUnimplemented 0x11#8 s)

/-- 0x12 STAX D (R91, R106). -/
def execStaxD (s : State) : Host.Outcome State Fault Refusal := .next (raiseUnimplemented 0x12#8 s)

/-- 0x13 INX D (R91, R106). -/
def execInxD (s : State) : Host.Outcome State Fault Refusal := .next (raiseUnimplemented 0x13#8 s)

/-- 0x14 INR D (R91, R106). -/
def execInrD (s : State) : Host.Outcome State Fault Refusal := .next (raiseUnimplemented 0x14#8 s)

/-- 0x15 DCR D (R91, R106). -/
def execDcrD (s : State) : Host.Outcome State Fault Refusal := .next (raiseUnimplemented 0x15#8 s)

/-- 0x16 MVI D,d8 (R91, R106). -/
def execMviDD8 (s : State) : Host.Outcome State Fault Refusal := .next (raiseUnimplemented 0x16#8 s)

/-- 0x17 RAL (R91, R106). -/
def execRal (s : State) : Host.Outcome State Fault Refusal := .next (raiseUnimplemented 0x17#8 s)

/-- 0x19 DAD D (R91, R106). -/
def execDadD (s : State) : Host.Outcome State Fault Refusal := .next (raiseUnimplemented 0x19#8 s)

/-- 0x1A LDAX D (R91, R106). -/
def execLdaxD (s : State) : Host.Outcome State Fault Refusal := .next (raiseUnimplemented 0x1A#8 s)

/-- 0x1B DCX D (R91, R106). -/
def execDcxD (s : State) : Host.Outcome State Fault Refusal := .next (raiseUnimplemented 0x1B#8 s)

/-- 0x1C INR E (R91, R106). -/
def execInrE (s : State) : Host.Outcome State Fault Refusal := .next (raiseUnimplemented 0x1C#8 s)

/-- 0x1D DCR E (R91, R106). -/
def execDcrE (s : State) : Host.Outcome State Fault Refusal := .next (raiseUnimplemented 0x1D#8 s)

/-- 0x1E MVI E,d8 (R91, R106). -/
def execMviED8 (s : State) : Host.Outcome State Fault Refusal := .next (raiseUnimplemented 0x1E#8 s)

/-- 0x1F RAR (R91, R106). -/
def execRar (s : State) : Host.Outcome State Fault Refusal := .next (raiseUnimplemented 0x1F#8 s)

/-- 0x21 LXI H,d16 (R91, R106). -/
def execLxiHD16 (s : State) : Host.Outcome State Fault Refusal := .next (raiseUnimplemented 0x21#8 s)

/-- 0x22 SHLD a16 (R91, R106). -/
def execShldA16 (s : State) : Host.Outcome State Fault Refusal := .next (raiseUnimplemented 0x22#8 s)

/-- 0x23 INX H (R91, R106). -/
def execInxH (s : State) : Host.Outcome State Fault Refusal := .next (raiseUnimplemented 0x23#8 s)

/-- 0x24 INR H (R91, R106). -/
def execInrH (s : State) : Host.Outcome State Fault Refusal := .next (raiseUnimplemented 0x24#8 s)

/-- 0x25 DCR H (R91, R106). -/
def execDcrH (s : State) : Host.Outcome State Fault Refusal := .next (raiseUnimplemented 0x25#8 s)

/-- 0x26 MVI H,d8 (R91, R106). -/
def execMviHD8 (s : State) : Host.Outcome State Fault Refusal := .next (raiseUnimplemented 0x26#8 s)

/-- 0x27 DAA (R91, R106). -/
def execDaa (s : State) : Host.Outcome State Fault Refusal := .next (raiseUnimplemented 0x27#8 s)

/-- 0x29 DAD H (R91, R106). -/
def execDadH (s : State) : Host.Outcome State Fault Refusal := .next (raiseUnimplemented 0x29#8 s)

/-- 0x2A LHLD a16 (R91, R106). -/
def execLhldA16 (s : State) : Host.Outcome State Fault Refusal := .next (raiseUnimplemented 0x2A#8 s)

/-- 0x2B DCX H (R91, R106). -/
def execDcxH (s : State) : Host.Outcome State Fault Refusal := .next (raiseUnimplemented 0x2B#8 s)

/-- 0x2C INR L (R91, R106). -/
def execInrL (s : State) : Host.Outcome State Fault Refusal := .next (raiseUnimplemented 0x2C#8 s)

/-- 0x2D DCR L (R91, R106). -/
def execDcrL (s : State) : Host.Outcome State Fault Refusal := .next (raiseUnimplemented 0x2D#8 s)

/-- 0x2E MVI L,d8 (R91, R106). -/
def execMviLD8 (s : State) : Host.Outcome State Fault Refusal := .next (raiseUnimplemented 0x2E#8 s)

/-- 0x2F CMA (R91, R106). -/
def execCma (s : State) : Host.Outcome State Fault Refusal := .next (raiseUnimplemented 0x2F#8 s)

/-- 0x31 LXI SP,d16 (R91, R106). -/
def execLxiSpD16 (s : State) : Host.Outcome State Fault Refusal := .next (raiseUnimplemented 0x31#8 s)

/-- 0x33 INX SP (R91, R106). -/
def execInxSp (s : State) : Host.Outcome State Fault Refusal := .next (raiseUnimplemented 0x33#8 s)

/-- 0x34 INR M (R91, R106). -/
def execInrM (s : State) : Host.Outcome State Fault Refusal := .next (raiseUnimplemented 0x34#8 s)

/-- 0x35 DCR M (R91, R106). -/
def execDcrM (s : State) : Host.Outcome State Fault Refusal := .next (raiseUnimplemented 0x35#8 s)

/-- 0x36 MVI M,d8 (R91, R106). -/
def execMviMD8 (s : State) : Host.Outcome State Fault Refusal := .next (raiseUnimplemented 0x36#8 s)

/-- 0x37 STC (R91, R106). -/
def execStc (s : State) : Host.Outcome State Fault Refusal := .next (raiseUnimplemented 0x37#8 s)

/-- 0x39 DAD SP (R91, R106). -/
def execDadSp (s : State) : Host.Outcome State Fault Refusal := .next (raiseUnimplemented 0x39#8 s)

/-- 0x3B DCX SP (R91, R106). -/
def execDcxSp (s : State) : Host.Outcome State Fault Refusal := .next (raiseUnimplemented 0x3B#8 s)

/-- 0x3C INR A (R91, R106). -/
def execInrA (s : State) : Host.Outcome State Fault Refusal := .next (raiseUnimplemented 0x3C#8 s)

/-- 0x3D DCR A (R91, R106). -/
def execDcrA (s : State) : Host.Outcome State Fault Refusal := .next (raiseUnimplemented 0x3D#8 s)

/-- 0x3E MVI A,d8 (R91, R106). -/
def execMviAD8 (s : State) : Host.Outcome State Fault Refusal := .next (raiseUnimplemented 0x3E#8 s)

/-- 0x3F CMC (R91, R106). -/
def execCmc (s : State) : Host.Outcome State Fault Refusal := .next (raiseUnimplemented 0x3F#8 s)

/-- 0x40 MOV B,B (R91, R106). -/
def execMovBB (s : State) : Host.Outcome State Fault Refusal := .next (raiseUnimplemented 0x40#8 s)

/-- 0x41 MOV B,C (R91, R106). -/
def execMovBC (s : State) : Host.Outcome State Fault Refusal := .next (raiseUnimplemented 0x41#8 s)

/-- 0x42 MOV B,D (R91, R106). -/
def execMovBD (s : State) : Host.Outcome State Fault Refusal := .next (raiseUnimplemented 0x42#8 s)

/-- 0x43 MOV B,E (R91, R106). -/
def execMovBE (s : State) : Host.Outcome State Fault Refusal := .next (raiseUnimplemented 0x43#8 s)

/-- 0x44 MOV B,H (R91, R106). -/
def execMovBH (s : State) : Host.Outcome State Fault Refusal := .next (raiseUnimplemented 0x44#8 s)

/-- 0x45 MOV B,L (R91, R106). -/
def execMovBL (s : State) : Host.Outcome State Fault Refusal := .next (raiseUnimplemented 0x45#8 s)

/-- 0x46 MOV B,M (R91, R106). -/
def execMovBM (s : State) : Host.Outcome State Fault Refusal := .next (raiseUnimplemented 0x46#8 s)

/-- 0x48 MOV C,B (R91, R106). -/
def execMovCB (s : State) : Host.Outcome State Fault Refusal := .next (raiseUnimplemented 0x48#8 s)

/-- 0x49 MOV C,C (R91, R106). -/
def execMovCC (s : State) : Host.Outcome State Fault Refusal := .next (raiseUnimplemented 0x49#8 s)

/-- 0x4A MOV C,D (R91, R106). -/
def execMovCD (s : State) : Host.Outcome State Fault Refusal := .next (raiseUnimplemented 0x4A#8 s)

/-- 0x4B MOV C,E (R91, R106). -/
def execMovCE (s : State) : Host.Outcome State Fault Refusal := .next (raiseUnimplemented 0x4B#8 s)

/-- 0x4C MOV C,H (R91, R106). -/
def execMovCH (s : State) : Host.Outcome State Fault Refusal := .next (raiseUnimplemented 0x4C#8 s)

/-- 0x4D MOV C,L (R91, R106). -/
def execMovCL (s : State) : Host.Outcome State Fault Refusal := .next (raiseUnimplemented 0x4D#8 s)

/-- 0x4E MOV C,M (R91, R106). -/
def execMovCM (s : State) : Host.Outcome State Fault Refusal := .next (raiseUnimplemented 0x4E#8 s)

/-- 0x4F MOV C,A (R91, R106). -/
def execMovCA (s : State) : Host.Outcome State Fault Refusal := .next (raiseUnimplemented 0x4F#8 s)

/-- 0x50 MOV D,B (R91, R106). -/
def execMovDB (s : State) : Host.Outcome State Fault Refusal := .next (raiseUnimplemented 0x50#8 s)

/-- 0x51 MOV D,C (R91, R106). -/
def execMovDC (s : State) : Host.Outcome State Fault Refusal := .next (raiseUnimplemented 0x51#8 s)

/-- 0x52 MOV D,D (R91, R106). -/
def execMovDD (s : State) : Host.Outcome State Fault Refusal := .next (raiseUnimplemented 0x52#8 s)

/-- 0x53 MOV D,E (R91, R106). -/
def execMovDE (s : State) : Host.Outcome State Fault Refusal := .next (raiseUnimplemented 0x53#8 s)

/-- 0x54 MOV D,H (R91, R106). -/
def execMovDH (s : State) : Host.Outcome State Fault Refusal := .next (raiseUnimplemented 0x54#8 s)

/-- 0x55 MOV D,L (R91, R106). -/
def execMovDL (s : State) : Host.Outcome State Fault Refusal := .next (raiseUnimplemented 0x55#8 s)

/-- 0x56 MOV D,M (R91, R106). -/
def execMovDM (s : State) : Host.Outcome State Fault Refusal := .next (raiseUnimplemented 0x56#8 s)

/-- 0x57 MOV D,A (R91, R106). -/
def execMovDA (s : State) : Host.Outcome State Fault Refusal := .next (raiseUnimplemented 0x57#8 s)

/-- 0x58 MOV E,B (R91, R106). -/
def execMovEB (s : State) : Host.Outcome State Fault Refusal := .next (raiseUnimplemented 0x58#8 s)

/-- 0x59 MOV E,C (R91, R106). -/
def execMovEC (s : State) : Host.Outcome State Fault Refusal := .next (raiseUnimplemented 0x59#8 s)

/-- 0x5A MOV E,D (R91, R106). -/
def execMovED (s : State) : Host.Outcome State Fault Refusal := .next (raiseUnimplemented 0x5A#8 s)

/-- 0x5B MOV E,E (R91, R106). -/
def execMovEE (s : State) : Host.Outcome State Fault Refusal := .next (raiseUnimplemented 0x5B#8 s)

/-- 0x5C MOV E,H (R91, R106). -/
def execMovEH (s : State) : Host.Outcome State Fault Refusal := .next (raiseUnimplemented 0x5C#8 s)

/-- 0x5D MOV E,L (R91, R106). -/
def execMovEL (s : State) : Host.Outcome State Fault Refusal := .next (raiseUnimplemented 0x5D#8 s)

/-- 0x5E MOV E,M (R91, R106). -/
def execMovEM (s : State) : Host.Outcome State Fault Refusal := .next (raiseUnimplemented 0x5E#8 s)

/-- 0x5F MOV E,A (R91, R106). -/
def execMovEA (s : State) : Host.Outcome State Fault Refusal := .next (raiseUnimplemented 0x5F#8 s)

/-- 0x60 MOV H,B (R91, R106). -/
def execMovHB (s : State) : Host.Outcome State Fault Refusal := .next (raiseUnimplemented 0x60#8 s)

/-- 0x61 MOV H,C (R91, R106). -/
def execMovHC (s : State) : Host.Outcome State Fault Refusal := .next (raiseUnimplemented 0x61#8 s)

/-- 0x62 MOV H,D (R91, R106). -/
def execMovHD (s : State) : Host.Outcome State Fault Refusal := .next (raiseUnimplemented 0x62#8 s)

/-- 0x63 MOV H,E (R91, R106). -/
def execMovHE (s : State) : Host.Outcome State Fault Refusal := .next (raiseUnimplemented 0x63#8 s)

/-- 0x64 MOV H,H (R91, R106). -/
def execMovHH (s : State) : Host.Outcome State Fault Refusal := .next (raiseUnimplemented 0x64#8 s)

/-- 0x65 MOV H,L (R91, R106). -/
def execMovHL (s : State) : Host.Outcome State Fault Refusal := .next (raiseUnimplemented 0x65#8 s)

/-- 0x66 MOV H,M (R91, R106). -/
def execMovHM (s : State) : Host.Outcome State Fault Refusal := .next (raiseUnimplemented 0x66#8 s)

/-- 0x67 MOV H,A (R91, R106). -/
def execMovHA (s : State) : Host.Outcome State Fault Refusal := .next (raiseUnimplemented 0x67#8 s)

/-- 0x68 MOV L,B (R91, R106). -/
def execMovLB (s : State) : Host.Outcome State Fault Refusal := .next (raiseUnimplemented 0x68#8 s)

/-- 0x69 MOV L,C (R91, R106). -/
def execMovLC (s : State) : Host.Outcome State Fault Refusal := .next (raiseUnimplemented 0x69#8 s)

/-- 0x6A MOV L,D (R91, R106). -/
def execMovLD (s : State) : Host.Outcome State Fault Refusal := .next (raiseUnimplemented 0x6A#8 s)

/-- 0x6B MOV L,E (R91, R106). -/
def execMovLE (s : State) : Host.Outcome State Fault Refusal := .next (raiseUnimplemented 0x6B#8 s)

/-- 0x6C MOV L,H (R91, R106). -/
def execMovLH (s : State) : Host.Outcome State Fault Refusal := .next (raiseUnimplemented 0x6C#8 s)

/-- 0x6D MOV L,L (R91, R106). -/
def execMovLL (s : State) : Host.Outcome State Fault Refusal := .next (raiseUnimplemented 0x6D#8 s)

/-- 0x6E MOV L,M (R91, R106). -/
def execMovLM (s : State) : Host.Outcome State Fault Refusal := .next (raiseUnimplemented 0x6E#8 s)

/-- 0x6F MOV L,A (R91, R106). -/
def execMovLA (s : State) : Host.Outcome State Fault Refusal := .next (raiseUnimplemented 0x6F#8 s)

/-- 0x70 MOV M,B (R91, R106). -/
def execMovMB (s : State) : Host.Outcome State Fault Refusal := .next (raiseUnimplemented 0x70#8 s)

/-- 0x71 MOV M,C (R91, R106). -/
def execMovMC (s : State) : Host.Outcome State Fault Refusal := .next (raiseUnimplemented 0x71#8 s)

/-- 0x72 MOV M,D (R91, R106). -/
def execMovMD (s : State) : Host.Outcome State Fault Refusal := .next (raiseUnimplemented 0x72#8 s)

/-- 0x73 MOV M,E (R91, R106). -/
def execMovME (s : State) : Host.Outcome State Fault Refusal := .next (raiseUnimplemented 0x73#8 s)

/-- 0x74 MOV M,H (R91, R106). -/
def execMovMH (s : State) : Host.Outcome State Fault Refusal := .next (raiseUnimplemented 0x74#8 s)

/-- 0x75 MOV M,L (R91, R106). -/
def execMovML (s : State) : Host.Outcome State Fault Refusal := .next (raiseUnimplemented 0x75#8 s)

/-- 0x77 MOV M,A (R91, R106). -/
def execMovMA (s : State) : Host.Outcome State Fault Refusal := .next (raiseUnimplemented 0x77#8 s)

/-- 0x78 MOV A,B (R91, R106). -/
def execMovAB (s : State) : Host.Outcome State Fault Refusal := .next (raiseUnimplemented 0x78#8 s)

/-- 0x79 MOV A,C (R91, R106). -/
def execMovAC (s : State) : Host.Outcome State Fault Refusal := .next (raiseUnimplemented 0x79#8 s)

/-- 0x7A MOV A,D (R91, R106). -/
def execMovAD (s : State) : Host.Outcome State Fault Refusal := .next (raiseUnimplemented 0x7A#8 s)

/-- 0x7B MOV A,E (R91, R106). -/
def execMovAE (s : State) : Host.Outcome State Fault Refusal := .next (raiseUnimplemented 0x7B#8 s)

/-- 0x7C MOV A,H (R91, R106). -/
def execMovAH (s : State) : Host.Outcome State Fault Refusal := .next (raiseUnimplemented 0x7C#8 s)

/-- 0x7D MOV A,L (R91, R106). -/
def execMovAL (s : State) : Host.Outcome State Fault Refusal := .next (raiseUnimplemented 0x7D#8 s)

/-- 0x7E MOV A,M (R91, R106). -/
def execMovAM (s : State) : Host.Outcome State Fault Refusal := .next (raiseUnimplemented 0x7E#8 s)

/-- 0x7F MOV A,A (R91, R106). -/
def execMovAA (s : State) : Host.Outcome State Fault Refusal := .next (raiseUnimplemented 0x7F#8 s)

/-- 0x81 ADD C (R91, R106). -/
def execAddC (s : State) : Host.Outcome State Fault Refusal := .next (raiseUnimplemented 0x81#8 s)

/-- 0x82 ADD D (R91, R106). -/
def execAddD (s : State) : Host.Outcome State Fault Refusal := .next (raiseUnimplemented 0x82#8 s)

/-- 0x83 ADD E (R91, R106). -/
def execAddE (s : State) : Host.Outcome State Fault Refusal := .next (raiseUnimplemented 0x83#8 s)

/-- 0x84 ADD H (R91, R106). -/
def execAddH (s : State) : Host.Outcome State Fault Refusal := .next (raiseUnimplemented 0x84#8 s)

/-- 0x85 ADD L (R91, R106). -/
def execAddL (s : State) : Host.Outcome State Fault Refusal := .next (raiseUnimplemented 0x85#8 s)

/-- 0x86 ADD M (R91, R106). -/
def execAddM (s : State) : Host.Outcome State Fault Refusal := .next (raiseUnimplemented 0x86#8 s)

/-- 0x87 ADD A (R91, R106). -/
def execAddA (s : State) : Host.Outcome State Fault Refusal := .next (raiseUnimplemented 0x87#8 s)

/-- 0x88 ADC B (R91, R106). -/
def execAdcB (s : State) : Host.Outcome State Fault Refusal := .next (raiseUnimplemented 0x88#8 s)

/-- 0x89 ADC C (R91, R106). -/
def execAdcC (s : State) : Host.Outcome State Fault Refusal := .next (raiseUnimplemented 0x89#8 s)

/-- 0x8A ADC D (R91, R106). -/
def execAdcD (s : State) : Host.Outcome State Fault Refusal := .next (raiseUnimplemented 0x8A#8 s)

/-- 0x8B ADC E (R91, R106). -/
def execAdcE (s : State) : Host.Outcome State Fault Refusal := .next (raiseUnimplemented 0x8B#8 s)

/-- 0x8C ADC H (R91, R106). -/
def execAdcH (s : State) : Host.Outcome State Fault Refusal := .next (raiseUnimplemented 0x8C#8 s)

/-- 0x8D ADC L (R91, R106). -/
def execAdcL (s : State) : Host.Outcome State Fault Refusal := .next (raiseUnimplemented 0x8D#8 s)

/-- 0x8E ADC M (R91, R106). -/
def execAdcM (s : State) : Host.Outcome State Fault Refusal := .next (raiseUnimplemented 0x8E#8 s)

/-- 0x8F ADC A (R91, R106). -/
def execAdcA (s : State) : Host.Outcome State Fault Refusal := .next (raiseUnimplemented 0x8F#8 s)

/-- 0x90 SUB B (R91, R106). -/
def execSubB (s : State) : Host.Outcome State Fault Refusal := .next (raiseUnimplemented 0x90#8 s)

/-- 0x91 SUB C (R91, R106). -/
def execSubC (s : State) : Host.Outcome State Fault Refusal := .next (raiseUnimplemented 0x91#8 s)

/-- 0x92 SUB D (R91, R106). -/
def execSubD (s : State) : Host.Outcome State Fault Refusal := .next (raiseUnimplemented 0x92#8 s)

/-- 0x93 SUB E (R91, R106). -/
def execSubE (s : State) : Host.Outcome State Fault Refusal := .next (raiseUnimplemented 0x93#8 s)

/-- 0x94 SUB H (R91, R106). -/
def execSubH (s : State) : Host.Outcome State Fault Refusal := .next (raiseUnimplemented 0x94#8 s)

/-- 0x95 SUB L (R91, R106). -/
def execSubL (s : State) : Host.Outcome State Fault Refusal := .next (raiseUnimplemented 0x95#8 s)

/-- 0x96 SUB M (R91, R106). -/
def execSubM (s : State) : Host.Outcome State Fault Refusal := .next (raiseUnimplemented 0x96#8 s)

/-- 0x97 SUB A (R91, R106). -/
def execSubA (s : State) : Host.Outcome State Fault Refusal := .next (raiseUnimplemented 0x97#8 s)

/-- 0x98 SBB B (R91, R106). -/
def execSbbB (s : State) : Host.Outcome State Fault Refusal := .next (raiseUnimplemented 0x98#8 s)

/-- 0x99 SBB C (R91, R106). -/
def execSbbC (s : State) : Host.Outcome State Fault Refusal := .next (raiseUnimplemented 0x99#8 s)

/-- 0x9A SBB D (R91, R106). -/
def execSbbD (s : State) : Host.Outcome State Fault Refusal := .next (raiseUnimplemented 0x9A#8 s)

/-- 0x9B SBB E (R91, R106). -/
def execSbbE (s : State) : Host.Outcome State Fault Refusal := .next (raiseUnimplemented 0x9B#8 s)

/-- 0x9C SBB H (R91, R106). -/
def execSbbH (s : State) : Host.Outcome State Fault Refusal := .next (raiseUnimplemented 0x9C#8 s)

/-- 0x9D SBB L (R91, R106). -/
def execSbbL (s : State) : Host.Outcome State Fault Refusal := .next (raiseUnimplemented 0x9D#8 s)

/-- 0x9E SBB M (R91, R106). -/
def execSbbM (s : State) : Host.Outcome State Fault Refusal := .next (raiseUnimplemented 0x9E#8 s)

/-- 0x9F SBB A (R91, R106). -/
def execSbbA (s : State) : Host.Outcome State Fault Refusal := .next (raiseUnimplemented 0x9F#8 s)

/-- 0xA0 ANA B (R91, R106). -/
def execAnaB (s : State) : Host.Outcome State Fault Refusal := .next (raiseUnimplemented 0xA0#8 s)

/-- 0xA1 ANA C (R91, R106). -/
def execAnaC (s : State) : Host.Outcome State Fault Refusal := .next (raiseUnimplemented 0xA1#8 s)

/-- 0xA2 ANA D (R91, R106). -/
def execAnaD (s : State) : Host.Outcome State Fault Refusal := .next (raiseUnimplemented 0xA2#8 s)

/-- 0xA3 ANA E (R91, R106). -/
def execAnaE (s : State) : Host.Outcome State Fault Refusal := .next (raiseUnimplemented 0xA3#8 s)

/-- 0xA4 ANA H (R91, R106). -/
def execAnaH (s : State) : Host.Outcome State Fault Refusal := .next (raiseUnimplemented 0xA4#8 s)

/-- 0xA5 ANA L (R91, R106). -/
def execAnaL (s : State) : Host.Outcome State Fault Refusal := .next (raiseUnimplemented 0xA5#8 s)

/-- 0xA6 ANA M (R91, R106). -/
def execAnaM (s : State) : Host.Outcome State Fault Refusal := .next (raiseUnimplemented 0xA6#8 s)

/-- 0xA7 ANA A (R91, R106). -/
def execAnaA (s : State) : Host.Outcome State Fault Refusal := .next (raiseUnimplemented 0xA7#8 s)

/-- 0xA8 XRA B (R91, R106). -/
def execXraB (s : State) : Host.Outcome State Fault Refusal := .next (raiseUnimplemented 0xA8#8 s)

/-- 0xA9 XRA C (R91, R106). -/
def execXraC (s : State) : Host.Outcome State Fault Refusal := .next (raiseUnimplemented 0xA9#8 s)

/-- 0xAA XRA D (R91, R106). -/
def execXraD (s : State) : Host.Outcome State Fault Refusal := .next (raiseUnimplemented 0xAA#8 s)

/-- 0xAB XRA E (R91, R106). -/
def execXraE (s : State) : Host.Outcome State Fault Refusal := .next (raiseUnimplemented 0xAB#8 s)

/-- 0xAC XRA H (R91, R106). -/
def execXraH (s : State) : Host.Outcome State Fault Refusal := .next (raiseUnimplemented 0xAC#8 s)

/-- 0xAD XRA L (R91, R106). -/
def execXraL (s : State) : Host.Outcome State Fault Refusal := .next (raiseUnimplemented 0xAD#8 s)

/-- 0xAE XRA M (R91, R106). -/
def execXraM (s : State) : Host.Outcome State Fault Refusal := .next (raiseUnimplemented 0xAE#8 s)

/-- 0xAF XRA A (R91, R106). -/
def execXraA (s : State) : Host.Outcome State Fault Refusal := .next (raiseUnimplemented 0xAF#8 s)

/-- 0xB0 ORA B (R91, R106). -/
def execOraB (s : State) : Host.Outcome State Fault Refusal := .next (raiseUnimplemented 0xB0#8 s)

/-- 0xB1 ORA C (R91, R106). -/
def execOraC (s : State) : Host.Outcome State Fault Refusal := .next (raiseUnimplemented 0xB1#8 s)

/-- 0xB2 ORA D (R91, R106). -/
def execOraD (s : State) : Host.Outcome State Fault Refusal := .next (raiseUnimplemented 0xB2#8 s)

/-- 0xB3 ORA E (R91, R106). -/
def execOraE (s : State) : Host.Outcome State Fault Refusal := .next (raiseUnimplemented 0xB3#8 s)

/-- 0xB4 ORA H (R91, R106). -/
def execOraH (s : State) : Host.Outcome State Fault Refusal := .next (raiseUnimplemented 0xB4#8 s)

/-- 0xB5 ORA L (R91, R106). -/
def execOraL (s : State) : Host.Outcome State Fault Refusal := .next (raiseUnimplemented 0xB5#8 s)

/-- 0xB6 ORA M (R91, R106). -/
def execOraM (s : State) : Host.Outcome State Fault Refusal := .next (raiseUnimplemented 0xB6#8 s)

/-- 0xB7 ORA A (R91, R106). -/
def execOraA (s : State) : Host.Outcome State Fault Refusal := .next (raiseUnimplemented 0xB7#8 s)

/-- 0xB8 CMP B (R91, R106). -/
def execCmpB (s : State) : Host.Outcome State Fault Refusal := .next (raiseUnimplemented 0xB8#8 s)

/-- 0xB9 CMP C (R91, R106). -/
def execCmpC (s : State) : Host.Outcome State Fault Refusal := .next (raiseUnimplemented 0xB9#8 s)

/-- 0xBA CMP D (R91, R106). -/
def execCmpD (s : State) : Host.Outcome State Fault Refusal := .next (raiseUnimplemented 0xBA#8 s)

/-- 0xBB CMP E (R91, R106). -/
def execCmpE (s : State) : Host.Outcome State Fault Refusal := .next (raiseUnimplemented 0xBB#8 s)

/-- 0xBC CMP H (R91, R106). -/
def execCmpH (s : State) : Host.Outcome State Fault Refusal := .next (raiseUnimplemented 0xBC#8 s)

/-- 0xBD CMP L (R91, R106). -/
def execCmpL (s : State) : Host.Outcome State Fault Refusal := .next (raiseUnimplemented 0xBD#8 s)

/-- 0xBE CMP M (R91, R106). -/
def execCmpM (s : State) : Host.Outcome State Fault Refusal := .next (raiseUnimplemented 0xBE#8 s)

/-- 0xBF CMP A (R91, R106). -/
def execCmpA (s : State) : Host.Outcome State Fault Refusal := .next (raiseUnimplemented 0xBF#8 s)

/-- 0xC0 RNZ (R91, R106). -/
def execRnz (s : State) : Host.Outcome State Fault Refusal := .next (raiseUnimplemented 0xC0#8 s)

/-- 0xC1 POP B (R91, R106). -/
def execPopB (s : State) : Host.Outcome State Fault Refusal := .next (raiseUnimplemented 0xC1#8 s)

/-- 0xC2 JNZ a16 (R91, R106). -/
def execJnzA16 (s : State) : Host.Outcome State Fault Refusal := .next (raiseUnimplemented 0xC2#8 s)

/-- 0xC3 JMP a16 (R91, R106). -/
def execJmpA16 (s : State) : Host.Outcome State Fault Refusal := .next (raiseUnimplemented 0xC3#8 s)

/-- 0xC4 CNZ a16 (R91, R106). -/
def execCnzA16 (s : State) : Host.Outcome State Fault Refusal := .next (raiseUnimplemented 0xC4#8 s)

/-- 0xC5 PUSH B (R91, R106). -/
def execPushB (s : State) : Host.Outcome State Fault Refusal := .next (raiseUnimplemented 0xC5#8 s)

/-- 0xC6 ADI d8 (R91, R106). -/
def execAdiD8 (s : State) : Host.Outcome State Fault Refusal := .next (raiseUnimplemented 0xC6#8 s)

/-- 0xC7 RST 0 (R91, R106). -/
def execRst0 (s : State) : Host.Outcome State Fault Refusal := .next (raiseUnimplemented 0xC7#8 s)

/-- 0xC8 RZ (R91, R106). -/
def execRz (s : State) : Host.Outcome State Fault Refusal := .next (raiseUnimplemented 0xC8#8 s)

/-- 0xC9 RET (R91, R106). -/
def execRet (s : State) : Host.Outcome State Fault Refusal := .next (raiseUnimplemented 0xC9#8 s)

/-- 0xCA JZ a16 (R91, R106). -/
def execJzA16 (s : State) : Host.Outcome State Fault Refusal := .next (raiseUnimplemented 0xCA#8 s)

/-- 0xCB JMP a16 (R91, R106). -/
def execJmpA16XCB (s : State) : Host.Outcome State Fault Refusal := .next (raiseUnimplemented 0xCB#8 s)

/-- 0xCC CZ a16 (R91, R106). -/
def execCzA16 (s : State) : Host.Outcome State Fault Refusal := .next (raiseUnimplemented 0xCC#8 s)

/-- 0xCD CALL a16 (R91, R106). -/
def execCallA16 (s : State) : Host.Outcome State Fault Refusal := .next (raiseUnimplemented 0xCD#8 s)

/-- 0xCE ACI d8 (R91, R106). -/
def execAciD8 (s : State) : Host.Outcome State Fault Refusal := .next (raiseUnimplemented 0xCE#8 s)

/-- 0xCF RST 1 (R91, R106). -/
def execRst1 (s : State) : Host.Outcome State Fault Refusal := .next (raiseUnimplemented 0xCF#8 s)

/-- 0xD0 RNC (R91, R106). -/
def execRnc (s : State) : Host.Outcome State Fault Refusal := .next (raiseUnimplemented 0xD0#8 s)

/-- 0xD1 POP D (R91, R106). -/
def execPopD (s : State) : Host.Outcome State Fault Refusal := .next (raiseUnimplemented 0xD1#8 s)

/-- 0xD2 JNC a16 (R91, R106). -/
def execJncA16 (s : State) : Host.Outcome State Fault Refusal := .next (raiseUnimplemented 0xD2#8 s)

/-- 0xD3 OUT d8 (R91, R106). -/
def execOutD8 (s : State) : Host.Outcome State Fault Refusal := .next (raiseUnimplemented 0xD3#8 s)

/-- 0xD4 CNC a16 (R91, R106). -/
def execCncA16 (s : State) : Host.Outcome State Fault Refusal := .next (raiseUnimplemented 0xD4#8 s)

/-- 0xD5 PUSH D (R91, R106). -/
def execPushD (s : State) : Host.Outcome State Fault Refusal := .next (raiseUnimplemented 0xD5#8 s)

/-- 0xD6 SUI d8 (R91, R106). -/
def execSuiD8 (s : State) : Host.Outcome State Fault Refusal := .next (raiseUnimplemented 0xD6#8 s)

/-- 0xD7 RST 2 (R91, R106). -/
def execRst2 (s : State) : Host.Outcome State Fault Refusal := .next (raiseUnimplemented 0xD7#8 s)

/-- 0xD8 RC (R91, R106). -/
def execRc (s : State) : Host.Outcome State Fault Refusal := .next (raiseUnimplemented 0xD8#8 s)

/-- 0xD9 RET (R91, R106). -/
def execRetXD9 (s : State) : Host.Outcome State Fault Refusal := .next (raiseUnimplemented 0xD9#8 s)

/-- 0xDA JC a16 (R91, R106). -/
def execJcA16 (s : State) : Host.Outcome State Fault Refusal := .next (raiseUnimplemented 0xDA#8 s)

/-- 0xDB IN d8 (R91, R106). -/
def execInD8 (s : State) : Host.Outcome State Fault Refusal := .next (raiseUnimplemented 0xDB#8 s)

/-- 0xDC CC a16 (R91, R106). -/
def execCcA16 (s : State) : Host.Outcome State Fault Refusal := .next (raiseUnimplemented 0xDC#8 s)

/-- 0xDD CALL a16 (R91, R106). -/
def execCallA16XDD (s : State) : Host.Outcome State Fault Refusal := .next (raiseUnimplemented 0xDD#8 s)

/-- 0xDE SBI d8 (R91, R106). -/
def execSbiD8 (s : State) : Host.Outcome State Fault Refusal := .next (raiseUnimplemented 0xDE#8 s)

/-- 0xDF RST 3 (R91, R106). -/
def execRst3 (s : State) : Host.Outcome State Fault Refusal := .next (raiseUnimplemented 0xDF#8 s)

/-- 0xE0 RPO (R91, R106). -/
def execRpo (s : State) : Host.Outcome State Fault Refusal := .next (raiseUnimplemented 0xE0#8 s)

/-- 0xE1 POP H (R91, R106). -/
def execPopH (s : State) : Host.Outcome State Fault Refusal := .next (raiseUnimplemented 0xE1#8 s)

/-- 0xE2 JPO a16 (R91, R106). -/
def execJpoA16 (s : State) : Host.Outcome State Fault Refusal := .next (raiseUnimplemented 0xE2#8 s)

/-- 0xE3 XTHL (R91, R106). -/
def execXthl (s : State) : Host.Outcome State Fault Refusal := .next (raiseUnimplemented 0xE3#8 s)

/-- 0xE4 CPO a16 (R91, R106). -/
def execCpoA16 (s : State) : Host.Outcome State Fault Refusal := .next (raiseUnimplemented 0xE4#8 s)

/-- 0xE5 PUSH H (R91, R106). -/
def execPushH (s : State) : Host.Outcome State Fault Refusal := .next (raiseUnimplemented 0xE5#8 s)

/-- 0xE6 ANI d8 (R91, R106). -/
def execAniD8 (s : State) : Host.Outcome State Fault Refusal := .next (raiseUnimplemented 0xE6#8 s)

/-- 0xE7 RST 4 (R91, R106). -/
def execRst4 (s : State) : Host.Outcome State Fault Refusal := .next (raiseUnimplemented 0xE7#8 s)

/-- 0xE8 RPE (R91, R106). -/
def execRpe (s : State) : Host.Outcome State Fault Refusal := .next (raiseUnimplemented 0xE8#8 s)

/-- 0xE9 PCHL (R91, R106). -/
def execPchl (s : State) : Host.Outcome State Fault Refusal := .next (raiseUnimplemented 0xE9#8 s)

/-- 0xEA JPE a16 (R91, R106). -/
def execJpeA16 (s : State) : Host.Outcome State Fault Refusal := .next (raiseUnimplemented 0xEA#8 s)

/-- 0xEB XCHG (R91, R106). -/
def execXchg (s : State) : Host.Outcome State Fault Refusal := .next (raiseUnimplemented 0xEB#8 s)

/-- 0xEC CPE a16 (R91, R106). -/
def execCpeA16 (s : State) : Host.Outcome State Fault Refusal := .next (raiseUnimplemented 0xEC#8 s)

/-- 0xED CALL a16 (R91, R106). -/
def execCallA16XED (s : State) : Host.Outcome State Fault Refusal := .next (raiseUnimplemented 0xED#8 s)

/-- 0xEE XRI d8 (R91, R106). -/
def execXriD8 (s : State) : Host.Outcome State Fault Refusal := .next (raiseUnimplemented 0xEE#8 s)

/-- 0xEF RST 5 (R91, R106). -/
def execRst5 (s : State) : Host.Outcome State Fault Refusal := .next (raiseUnimplemented 0xEF#8 s)

/-- 0xF0 RP (R91, R106). -/
def execRp (s : State) : Host.Outcome State Fault Refusal := .next (raiseUnimplemented 0xF0#8 s)

/-- 0xF1 POP PSW (R91, R106). -/
def execPopPsw (s : State) : Host.Outcome State Fault Refusal := .next (raiseUnimplemented 0xF1#8 s)

/-- 0xF2 JP a16 (R91, R106). -/
def execJpA16 (s : State) : Host.Outcome State Fault Refusal := .next (raiseUnimplemented 0xF2#8 s)

/-- 0xF3 DI (R91, R106). -/
def execDi (s : State) : Host.Outcome State Fault Refusal := .next (raiseUnimplemented 0xF3#8 s)

/-- 0xF4 CP a16 (R91, R106). -/
def execCpA16 (s : State) : Host.Outcome State Fault Refusal := .next (raiseUnimplemented 0xF4#8 s)

/-- 0xF5 PUSH PSW (R91, R106). -/
def execPushPsw (s : State) : Host.Outcome State Fault Refusal := .next (raiseUnimplemented 0xF5#8 s)

/-- 0xF6 ORI d8 (R91, R106). -/
def execOriD8 (s : State) : Host.Outcome State Fault Refusal := .next (raiseUnimplemented 0xF6#8 s)

/-- 0xF7 RST 6 (R91, R106). -/
def execRst6 (s : State) : Host.Outcome State Fault Refusal := .next (raiseUnimplemented 0xF7#8 s)

/-- 0xF8 RM (R91, R106). -/
def execRm (s : State) : Host.Outcome State Fault Refusal := .next (raiseUnimplemented 0xF8#8 s)

/-- 0xF9 SPHL (R91, R106). -/
def execSphl (s : State) : Host.Outcome State Fault Refusal := .next (raiseUnimplemented 0xF9#8 s)

/-- 0xFA JM a16 (R91, R106). -/
def execJmA16 (s : State) : Host.Outcome State Fault Refusal := .next (raiseUnimplemented 0xFA#8 s)

/-- 0xFB EI (R91, R106). -/
def execEi (s : State) : Host.Outcome State Fault Refusal := .next (raiseUnimplemented 0xFB#8 s)

/-- 0xFC CM a16 (R91, R106). -/
def execCmA16 (s : State) : Host.Outcome State Fault Refusal := .next (raiseUnimplemented 0xFC#8 s)

/-- 0xFD CALL a16 (R91, R106). -/
def execCallA16XFD (s : State) : Host.Outcome State Fault Refusal := .next (raiseUnimplemented 0xFD#8 s)

/-- 0xFE CPI d8 (R91, R106). -/
def execCpiD8 (s : State) : Host.Outcome State Fault Refusal := .next (raiseUnimplemented 0xFE#8 s)

/-- 0xFF RST 7 (R91, R106). -/
def execRst7 (s : State) : Host.Outcome State Fault Refusal := .next (raiseUnimplemented 0xFF#8 s)

end Sys2Proof.Machine
end

