-- ==== Sys2Proof/Machine/Operands.lean ====
section
/-! DEFINITION. Fetching an instruction through the Bus: the opcode byte and the operand of each format
(30_encoding.md R80 to R86; 40_fetch_decode_execute.md R103 to R108). -/

namespace Sys2Proof.Machine

/-- The operand of the instruction whose opcode is at `p`, with `n` operand bytes, read through the Bus from the
addresses after it, low byte first (R84). -/
def readOperand (n : Nat) (p : Word) (s : State) : BusResult Operand :=
  match busReads n (p + 1) s with
  | .hold => .hold
  | .raised f t => .raised f t
  | .ok bs t => .ok (operandOfBytes bs) t

/-- Fetch, decode and operand fetch (R103 to R108): the instruction at the pc, and the state with the input bytes it was
read from consumed. An opcode that can have no execution rule is decoded before any operand byte is fetched (R106). -/
def fetchInstr (s : State) : BusResult Instr :=
  match busRead s s.pc with
  | .hold => .hold
  | .raised f t => .raised f t
  | .ok op t =>
    match readOperand (operandCount op) s.pc t with
    | .hold => .hold
    | .raised f u => .raised f u
    | .ok o u => .ok (decodeOpcode op o) u

/-- The instruction's execute part would hold in this state: only LDA reads through the Bus (R112). -/
def execWaits (i : Instr) (s : State) : Bool :=
  match i with
  | .lda a => readWaits s a
  | _ => false

/-- The step from this state holds (R101, R105): at the opcode fetch, at an operand byte, or at the data read. -/
def stepWaits (s : State) : Bool :=
  match fetchInstr s with
  | .hold => true
  | .raised _ _ => false
  | .ok i t => execWaits i t

end Sys2Proof.Machine
end

