-- ==== Sys2Proof/Machine/Cycle.lean ====
section
/-! DEFINITION. The whole step (40_fetch_decode_execute.md R117), and placing an instruction where the next step fetches it. -/

namespace Sys2Proof.Machine

/-- One step (R117). Halted: the outcome Final, the state unchanged (R119). Faulted: no step is enabled (R119). Running:
the instruction is fetched through the Bus and executed; a step that holds leaves the state as it was, with the input
bytes of the attempt still there (R105); a fault raised by a fetch is taken (R116). -/
def runStep (s : State) : Host.Outcome State Fault Refusal :=
  match s.status with
  | .halted => .next s
  | .faulted => .fault (.stepNotEnabled s.fault)
  | .running =>
    match fetchInstr s with
    | .hold => .next s
    | .raised f t => .next (takeFault f t)
    | .ok i t => if execWaits i t then .next s else exec i t

/-- Puts bytes where Bus reads from address `a` on find them: the first `n` of them are fetched, so one at `IN_ADDR` goes
to the head of the input stream (20_memory.md R73); every other byte not at `IN_ADDR` goes to the buffer. -/
def placeBytes : Nat → Word → List Byte → State → State
  | _, _, [], s => s
  | n, a, b :: bs, s =>
    placeBytes (n - 1) (a + 1) bs
      (if a = s.cfg.inAddr then
        (if n = 0 then s else { s with input := { s.input with pending := b :: s.input.pending } })
      else writeBuf a b s)

/-- Places an instruction's bytes, numbered as the opcode table numbers them, at the pc of a running machine. -/
def placeInstr (s : State) (nbits w : Nat) : State :=
  match tableWordBytes nbits w with
  | [] => s
  | op :: rest =>
    placeBytes (1 + operandCount op) s.pc (op :: rest) { s with status := .running, fault := none }

end Sys2Proof.Machine
end

