-- ==== Sys2Proof/Machine/Step.lean ====
section
/-! DEFINITION. The machine's step (40_fetch_decode_execute.md R117) and the placing of a test instruction, under the
host's names. -/

namespace Sys2Proof.Machine

/-- One step of the machine: see `runStep`. -/
def step (s : State) : Host.Outcome State Fault Refusal := runStep s

/-- `s` with the instruction whose bits are `w` placed where the next step fetches: see `placeInstr` (log entry 20). -/
def State.withFetchWord (s : State) (nbits w : Nat) : State := placeInstr s nbits w

end Sys2Proof.Machine
end

