-- ==== Sys2Proof/Machine/Environment.lean ====
section
/-! DEFINITION. What the host may do during a run (10_state.md R40; 20_memory.md R58, R60, R75): append input, close the
input stream once, take output. These are no part of a step; they happen between steps (log entry 16). -/

namespace Sys2Proof.Machine

/-- An action of the host during a run. -/
inductive EnvAction where
  /-- Bytes appended to `In.pending`. -/
  | append (bs : List Byte)
  /-- `In.closed <- true`. -/
  | close
  /-- The oldest `n` bytes taken from `Out`. -/
  | take (n : Nat)
deriving DecidableEq, Repr

/-- Bytes appended to the pending input (R58). -/
def appendInput (bs : List Byte) (s : State) : State :=
  { s with input := { s.input with pending := s.input.pending ++ bs } }

/-- The input stream closed (R58). -/
def closeInput (s : State) : State := { s with input := { s.input with closed := true } }

/-- The oldest `n` bytes of `Out`, in write order (R75). -/
def takenOutput (n : Nat) (s : State) : List Byte := s.output.take n

/-- `Out` without its oldest `n` bytes (R40, R60). -/
def dropOutput (n : Nat) (s : State) : State := { s with output := s.output.drop n }

/-- The state after an action of the host, or nothing where R58 does not allow it: input and closing need an open stream. -/
def envStep (act : EnvAction) (s : State) : Option State :=
  match act with
  | .append bs => if s.input.closed then none else some (appendInput bs s)
  | .close => if s.input.closed then none else some (closeInput s)
  | .take n => some (dropOutput n s)

end Sys2Proof.Machine
end

