-- ==== Sys2Proof/Machine/Launch.lean ====
section
/-! DEFINITION. Launch: the image load of 70_reset_and_hazards.md R233 to R235, at the block's interface. -/

namespace Sys2Proof.Machine

/-- A host-side condition that keeps a run from starting (60_exceptions.md R209); the other two of R209 (UsageError,
ImageIOError) are about files and arguments, outside the block (00_scope.md R6). -/
inductive LaunchError where
  | imageTooLarge
deriving DecidableEq, Repr

/-- What a launch answers. -/
inductive Launched where
  | started (s : State)
  | notStarted (why : LaunchError)
deriving DecidableEq, Repr

/-- The buffer at launch (R233, R234): the image verbatim from 0x0000 on, written directly and not through the Bus, and
`rest` everywhere else. Image and rest together are `INIT_MEM`. -/
def loadImage (image : List Byte) (rest : Memory) : Memory := memWriteBytes rest 0 image

/-- A launch (R235): the image must fit the address space (R233); then the state of construction over the loaded buffer. -/
def launch (cfg : Config) (image : List Byte) (rest : Memory) (input : InputStream) : Launched :=
  if image.length > addressSpace then .notStarted .imageTooLarge
  else .started (State.construct cfg (loadImage image rest) input)

end Sys2Proof.Machine
end

