-- ==== Sys2Proof/Machine/Outcome.lean ====
section
/-! DEFINITION. The outcomes of 40_fetch_decode_execute.md R101 by name. `step` shows the state after each of them;
`stepKind` says which of them it is. -/

namespace Sys2Proof.Machine

/-- The outcomes of a step (R101), and the case in which there is none (R119). -/
inductive StepKind where
  /-- The instruction completed (HLT included). -/
  | next
  /-- A read at `IN_ADDR` found no byte and the stream open: the state is unchanged. -/
  | hold
  /-- A fault was raised and taken. -/
  | fault
  /-- The machine is Halted: the state is unchanged. -/
  | final
  /-- The machine is Faulted: there is no step. -/
  | notEnabled
deriving DecidableEq, Repr

/-- The step's outcome has left the machine Faulted. -/
def landsFaulted : Host.Outcome State Fault Refusal → Bool
  | .next t => t.status == .faulted
  | .fault _ => false
  | .refused _ => false

/-- Which outcome the step from a state has (R101, R119). -/
def stepKind (s : State) : StepKind :=
  match s.status with
  | .halted => .final
  | .faulted => .notEnabled
  | .running =>
    if stepWaits s then .hold
    else if landsFaulted (step s) then .fault
    else .next

end Sys2Proof.Machine
end

