-- ==== Sys2Proof/Safety.lean ====
section
/-! DEFINITION. What counts as a run, as the end of a run, and as a safe run (40_fetch_decode_execute.md R120, R121), and
the invariant of the machine. -/

namespace Sys2Proof.Machine

/-- The states a run from `s₀` reaches: by steps, and by what the host may do between them (R120, 20_memory.md R75). -/
inductive Reachable (s₀ : State) : State → Prop where
  | start : Reachable s₀ s₀
  | step {s t : State} : Reachable s₀ s → step s = .next t → Reachable s₀ t
  | env {s t : State} (act : EnvAction) : Reachable s₀ s → envStep act s = some t → Reachable s₀ t

/-- "A run has ended normally exactly when `status = Halted`" (R121). -/
def State.endedNormally (s : State) : Bool := s.status == .halted

/-- No fault has been taken (R121): the premise of a claim about a program. -/
def State.faultFree (s : State) : Bool := s.status != .faulted

/-- A run from `s₀` is safe when it reaches no Faulted state. -/
def SafeRun (s₀ : State) : Prop := ∀ s, Reachable s₀ s → s.faultFree = true

/-- The next step would read one of its instruction's bytes at `IN_ADDR` (20_memory.md R73): the opcode, or an operand byte
of an opcode that takes operand bytes. -/
def State.fetchReadsInput (s : State) : Bool :=
  s.pc == s.cfg.inAddr ||
    (operandCount (readBuf s s.pc) == 2 && (s.pc + 1 == s.cfg.inAddr || s.pc + 2 == s.cfg.inAddr))

/-- Two states that differ at most in the buffer's cell at `IN_ADDR`. -/
def SameButInputCell (s t : State) : Prop :=
  t = { s with mem := t.mem } ∧ ∀ a, a ≠ s.cfg.inAddr → readBuf t a = readBuf s a

/-- Two states that differ at most in what no instruction reads: flags, `cycles`, `Out`, sp, C, D, E, H and L. -/
def SameButUnread (s t : State) : Prop :=
  t = { s with
    flags := t.flags
    cycles := t.cycles
    output := t.output
    sp := t.sp
    regs := { t.regs with a := s.regs.a, b := s.regs.b } }

/-- The fault record is there exactly when the status is Faulted (10_state.md R32). -/
def State.faultMatches (s : State) : Bool := s.fault.isSome == (s.status == .faulted)

/-- A fault record is one that a step of this machine can have raised (60_exceptions.md R201, R204): an opcode without an
execution rule, at the pc the machine still has, or the input device's address. -/
def State.faultGenuine (s : State) : Bool :=
  match s.fault with
  | none => true
  | some (.unimplementedOpcode op p) => ruleOf s.cfg op == .unimplemented && p == s.pc
  | some (.inputExhausted a) => a == s.cfg.inAddr && s.input.closed && s.input.pending.isEmpty

/-- The invariant: the buffer is in canonical form, and the fault record agrees with the status and the machine. -/
def State.Inv (s : State) : Prop :=
  s.mem.wf = true ∧ s.faultMatches = true ∧ s.faultGenuine = true

end Sys2Proof.Machine
end

