-- ==== Sys2Proof/Certificates/Slice0/Obligations.lean ====
section
/-! DEFINITION. The statements for the provers. Each docstring names the rules of spec/ its statement formalises; where a
statement rests on a choice of the model it names the log entry. -/

open Sys2Proof Sys2Proof.Machine

/-- Decode and encode agree: the decoder reads every instruction back from its bytes. For every instruction of the
opcode map, with every operand address, decoding its encoded bytes, whatever bytes follow, gives the instruction and
leaves exactly the bytes that follow. It rests on choices of the model: log entry 17. (30_encoding.md R80, R84, R89,
R93) -/
def Obligations.DecodeOfEncode : Prop :=
  ∀ (i : Instr) (rest : List Byte), decode (encode i ++ rest) = .instr i rest

/-- Every decoded byte sequence is the encoding of what was decoded, followed by the rest. If a sequence of bytes
decodes to an instruction and a rest, then the encoding of the instruction followed by the rest is the sequence: no
bit of an encoding is dropped, and each instruction has one encoding. (30_encoding.md R80, R84, R94) -/
def Obligations.EncodeOfDecode : Prop :=
  ∀ (bytes rest : List Byte) (i : Instr), decode bytes = .instr i rest → encode i ++ rest = bytes

/-- Every opcode byte decodes, to an instruction with that opcode. Whatever the first byte, a sequence of at least
three bytes decodes, to an instruction whose opcode is that byte; the decoder takes the two bytes after it or
neither. It rests on choices of the model: log entry 17. (30_encoding.md R87, R91, R94) -/
def Obligations.DecodeIsTotal : Prop :=
  ∀ (op lo hi : Byte) (tail : List Byte), ∃ i rest,
    decode (op :: lo :: hi :: tail) = .instr i rest ∧ opcodeOf i = op ∧ (rest = tail ∨ rest = lo :: hi :: tail)

/-- The address operand of LDA and STA is hi * 256 + lo, low byte first. For all bytes lo and hi, 3A lo hi decodes
to LDA and 32 lo hi to STA, with the address whose value is hi * 256 + lo. The two opcode bytes are those of R89, by
decision D1. It rests on choices of the model: log entry 3. (30_encoding.md R83, R84, R85, R89, 20_memory.md R63) -/
def Obligations.AddressOperandIsLittleEndian : Prop :=
  ∀ (lo hi : Byte) (rest : List Byte), ∃ a : Word, a.toNat = hi.toNat * 256 + lo.toNat ∧
    decode (0x3A#8 :: lo :: hi :: rest) = .instr (.lda a) rest ∧
    decode (0x32#8 :: lo :: hi :: rest) = .instr (.sta a) rest

/-- Words written out from the encoding tables decode to the instructions they stand for. The bytes of R89 and R95
for NOP, LDA, STA, MOV B,A, ADD B and HLT, one NOP candidate and three unimplemented opcodes decode to their
instructions; no byte, and LDA without its operand, are rejected by name, which is the model's reading, not a rule
of the spec. It rests on choices of the model: log entries 3, 17, 25. (30_encoding.md R89, R90, R93, R95) -/
def Obligations.SpecWordsDecode : Prop :=
  decode [0x00#8] = .instr .nop [] ∧
  decode [0x3A#8, 0x10#8, 0x00#8] = .instr (.lda 0x0010#16) [] ∧
  decode [0x32#8, 0x34#8, 0x12#8] = .instr (.sta 0x1234#16) [] ∧
  decode [0x47#8] = .instr .movBA [] ∧
  decode [0x80#8] = .instr .addB [] ∧
  decode [0x76#8, 0x99#8] = .instr .hlt [0x99#8] ∧
  decode [0x38#8] = .instr .nop38 [] ∧
  decode [0xC3#8, 0x00#8, 0x01#8] = .instr .jmpA16 [0x00#8, 0x01#8] ∧
  decode [0x81#8] = .instr .addC [] ∧
  decode [0xDB#8, 0xFE#8] = .instr .inD8 [0xFE#8] ∧
  decode [] = .rejected .noOpcode ∧
  decode [0x3A#8, 0x10#8] = .rejected .operandMissing

/-- Which instructions have an execution rule: the six, and the candidates in NOP_ALIASES. For every choice of
parameters, an instruction is admitted exactly when it is NOP, LDA, STA, MOV B,A, ADD B or HLT, or one of the seven
other NOP-alias candidates whose opcode is in NOP_ALIASES. It rests on choices of the model: log entries 3, 18.
(30_encoding.md R89, R90, R91, 00_scope.md R3) -/
def Obligations.AdmittedInstructions : Prop :=
  ∀ (cfg : Config) (i : Instr), i.admitted cfg = true ↔
    i = .nop ∨ (∃ a, i = .lda a) ∨ (∃ a, i = .sta a) ∨ i = .movBA ∨ i = .addB ∨ i = .hlt ∨
    (i ∈ [Instr.nop08, .nop10, .nop18, .nop20, .nop28, .nop30, .nop38] ∧ opcodeOf i ∈ cfg.nopAliases)

/-- For every admissible NOP_ALIASES exactly 247 opcodes are unimplemented. With any admissible parameters, the
number of opcodes among the 256 whose execution rule is Unimplemented is 247. It rests on choices of the model: log
entries 3, 18. (30_encoding.md R90, R91) -/
def Obligations.UnimplementedOpcodeCount : Prop :=
  ∀ cfg : Config, cfg.admissible = true →
    ((List.range 256).filter fun n => ruleOf cfg (BitVec.ofNat 8 n) == .unimplemented).length = 247

/-- What construction and the image load leave. A launch with an image of at most 65536 bytes starts in a state with
every register, HL, pc, sp and flag zero, status Running, cycles 0, no fault, empty Out, the given parameters and
input stream, image byte i at address i, and every address past the image as the rest of INIT_MEM has it. R37 marks
cycles 0, no fault and empty Out as decisions D12, D8 and D6 (log entries 15, 6, 14), and R233 the direct load of
the image as D15 (log entry 20). It rests on choices of the model: log entries 6, 14, 15, 20. (10_state.md R37,
70_reset_and_hazards.md R230, R231, R233, R234) -/
def Obligations.LaunchState : Prop :=
  ∀ (cfg : Config) (image : List Byte) (rest : Memory) (input : InputStream),
    image.length ≤ 65536 → rest.wf = true →
    ∃ s, launch cfg image rest input = .started s ∧
      (∀ r, getReg r s = 0x00#8) ∧ getHL s = 0x0000#16 ∧ s.pc = 0x0000#16 ∧ s.sp = 0x0000#16 ∧
      s.flags = ⟨false, false, false, false, false⟩ ∧ s.status = .running ∧ s.cycles = 0 ∧ s.fault = none ∧
      s.output = [] ∧ s.cfg = cfg ∧ s.input = input ∧
      (∀ (i : Nat) (hi : i < image.length), readBuf s (BitVec.ofNat 16 i) = image[i]) ∧
      (∀ a : Word, image.length ≤ a.toNat → readBuf s a = memRead rest a.toNat)

/-- An image of more than 65536 bytes starts no run. A launch with an image longer than the address space answers
the host-side condition ImageTooLarge. It rests on choices of the model: log entry 20. (70_reset_and_hazards.md
R233, 60_exceptions.md R209) -/
def Obligations.LaunchRefusesLargeImage : Prop :=
  ∀ (cfg : Config) (image : List Byte) (rest : Memory) (input : InputStream),
    65536 < image.length → launch cfg image rest input = .notStarted .imageTooLarge

/-- The state at reset meets the invariant, with admissible parameters. State.reset is the construction state over
the spec's default parameters (the model's choice, log entry 2), an empty list of buffer cells (log entry 4) and an
untouched input stream (log entry 5); the invariant holds there and the parameters are admissible. (10_state.md R37,
00_scope.md R11) -/
def Obligations.ResetInv : Prop :=
  State.reset.Inv ∧ State.reset.cfg.admissible = true

/-- HL reads H * 256 + L, and writing HL writes both halves. HL reads as H times 256 plus L; writing v to HL puts
bits 15:8 in H and bits 7:0 in L, reads back as v and changes nothing else; writing H or L alone changes that half
of HL and leaves the other. (R23) -/
def Obligations.HLIsOneViewOfHAndL : Prop :=
  ∀ (s : State) (v : Word) (b : Byte),
    (getHL s).toNat = (getReg .h s).toNat * 256 + (getReg .l s).toNat ∧
    getHL (setHL v s) = v ∧
    (getReg .h (setHL v s)).toNat = v.toNat / 256 ∧ (getReg .l (setHL v s)).toNat = v.toNat % 256 ∧
    setHL v s = { s with regs := { s.regs with h := getReg .h (setHL v s), l := getReg .l (setHL v s) } } ∧
    (getHL (setReg .h b s)).toNat = b.toNat * 256 + (getHL s).toNat % 256 ∧
    (getHL (setReg .l b s)).toNat = (getHL s).toNat / 256 * 256 + b.toNat

/-- A Bus read at IN_ADDR takes the next byte of the input stream, and holds or faults when there is none. A Bus
read at IN_ADDR takes the first pending byte, so that two reads return two successive bytes, and changes nothing but
the pending bytes; with nothing pending it holds while the stream is open and raises InputExhausted(IN_ADDR) when it
is closed. The buffer cell at IN_ADDR is not what it returns. (R54) -/
def Obligations.BusReadAtInput : Prop :=
  ∀ s : State,
    (∀ b rest, s.input.pending = b :: rest →
      busRead s s.cfg.inAddr = .ok b { s with input := ⟨rest, s.input.closed⟩ }) ∧
    (∀ b c rest, s.input.pending = b :: c :: rest → ∃ t, busRead s s.cfg.inAddr = .ok b t ∧
      busRead t s.cfg.inAddr = .ok c { s with input := ⟨rest, s.input.closed⟩ }) ∧
    (s.input.pending = [] → s.input.closed = false → busRead s s.cfg.inAddr = .hold) ∧
    (s.input.pending = [] → s.input.closed = true →
      busRead s s.cfg.inAddr = .raised (.inputExhausted s.cfg.inAddr) s)

/-- A Bus read at any address but IN_ADDR returns the buffer byte and changes nothing. A Bus read at an address
other than IN_ADDR, OUT_ADDR included, returns the buffer byte at that address and leaves the state as it is. It
rests on choices of the model: log entry 11. (20_memory.md R53, R57) -/
def Obligations.BusReadElsewhere : Prop :=
  ∀ (s : State) (a : Word), a ≠ s.cfg.inAddr → busRead s a = .ok (readBuf s a) s

/-- A Bus write at OUT_ADDR appends the byte to the output stream and leaves the buffer alone. A Bus write at
OUT_ADDR answers the state with the byte appended to Out and nothing else changed; every byte of the buffer, the
cell at OUT_ADDR included, reads as before. (R56) -/
def Obligations.BusWriteAtOutput : Prop :=
  ∀ (s : State) (v : Byte),
    busWrite s.cfg.outAddr v s = { s with output := s.output ++ [v] } ∧
    ∀ b, readBuf (busWrite s.cfg.outAddr v s) b = readBuf s b

/-- A Bus write at any address but OUT_ADDR changes that buffer cell only. A Bus write at an address other than
OUT_ADDR, IN_ADDR included, in a state whose buffer is in canonical form, changes the buffer only: that cell then
reads as the byte and every other cell as before, and the buffer is in canonical form again. It rests on choices of
the model: log entries 11, 14. (20_memory.md R55, R57) -/
def Obligations.BusWriteElsewhere : Prop :=
  ∀ (s : State) (a : Word) (v : Byte), a ≠ s.cfg.outAddr → s.mem.wf = true →
    busWrite a v s = { s with mem := (busWrite a v s).mem } ∧ (busWrite a v s).mem.wf = true ∧
    readBuf (busWrite a v s) a = v ∧ ∀ b, b ≠ a → readBuf (busWrite a v s) b = readBuf s b

/-- NOP advances the pc by 1, adds its cycle cost and changes nothing else. exec of NOP answers the state with the
pc one further, modulo 65536, and CYCLE_COST(0x00) added to the cycles; everything else is as before. It rests on
choices of the model: log entries 12, 18. (41_no_operation.md R130, 40_fetch_decode_execute.md R109, R113) -/
def Obligations.NopCompletes : Prop :=
  ∀ s : State, exec .nop s =
    .next { s with pc := s.pc + 1, cycles := s.cycles + cyclesOfOpcode s.cfg 0x00#8 }

/-- A candidate in NOP_ALIASES is a NOP with its own cycle cost. For each of the seven candidate rows 0x08, 0x10,
0x18, 0x20, 0x28, 0x30 and 0x38 (nop08 to nop38): if its opcode is in NOP_ALIASES, exec answers the state with the
pc one further and that opcode's cycle cost added, and nothing else changed. It rests on choices of the model: log
entries 12, 18. (41_no_operation.md R131, R132, 30_encoding.md R90) -/
def Obligations.NopAliasCompletes : Prop :=
  ∀ (i : Instr) (s : State), i ∈ [Instr.nop08, .nop10, .nop18, .nop20, .nop28, .nop30, .nop38] →
    opcodeOf i ∈ s.cfg.nopAliases →
    exec i s = .next { s with pc := s.pc + 1, cycles := s.cycles + cyclesOfOpcode s.cfg (opcodeOf i) }

/-- Every instruction without an execution rule takes UnimplementedOpcode(opcode, pc). For every instruction that is
not admitted (every row of the opcode map but nop, lda, sta, movBA, addB, hlt and the NOP-alias candidates in
NOP_ALIASES: AdmittedInstructions), exec answers the state with status Faulted and the fault record
UnimplementedOpcode of its opcode and the pc; everything else, pc and cycles included, is as before. It rests on
choices of the model: log entries 6, 17. (40_fetch_decode_execute.md R106, R116, 60_exceptions.md R201, R202, R203) -/
def Obligations.UnimplementedTakesFault : Prop :=
  ∀ (i : Instr) (s : State), i.admitted s.cfg = false →
    exec i s = .next { s with status := .faulted, fault := some (.unimplementedOpcode (opcodeOf i) s.pc) }

/-- LDA from any address but IN_ADDR loads the buffer byte into A. For an address other than IN_ADDR (OUT_ADDR
included), exec of LDA answers the state with A the buffer byte at that address, the pc three further and
CYCLE_COST(0x3A) added; nothing else changes. It rests on choices of the model: log entries 11, 12.
(42_data_transfer.md R141, R142, 20_memory.md R53) -/
def Obligations.LdaLoadsFromBuffer : Prop :=
  ∀ (s : State) (a : Word), a ≠ s.cfg.inAddr →
    exec (.lda a) s = .next { s with
      regs := { s.regs with a := readBuf s a }
      pc := s.pc + 3
      cycles := s.cycles + cyclesOfOpcode s.cfg 0x3A#8 }

/-- LDA from IN_ADDR loads the next input byte into A and consumes it. With a byte pending, exec of LDA IN_ADDR
answers the state with A that byte, the byte gone from the input, the pc three further and CYCLE_COST(0x3A) added;
nothing else changes. It rests on choices of the model: log entry 12. (42_data_transfer.md R141, R142, 20_memory.md
R54) -/
def Obligations.LdaLoadsFromInput : Prop :=
  ∀ (s : State) (b : Byte) (rest : List Byte), s.input.pending = b :: rest →
    exec (.lda s.cfg.inAddr) s = .next { s with
      regs := { s.regs with a := b }
      pc := s.pc + 3
      cycles := s.cycles + cyclesOfOpcode s.cfg 0x3A#8
      input := ⟨rest, s.input.closed⟩ }

/-- LDA from IN_ADDR with no byte waits while the stream is open, and faults when it is closed. With nothing
pending, exec of LDA IN_ADDR leaves the state as it is while the stream is open; when it is closed it takes
InputExhausted(IN_ADDR): status and fault record are written and nothing else, A included, changes. It rests on
choices of the model: log entries 6, 7. (20_memory.md R59, R61, 40_fetch_decode_execute.md R108, 60_exceptions.md
R204, R205) -/
def Obligations.LdaWaitsOrFaultsWithoutInput : Prop :=
  ∀ s : State, s.input.pending = [] →
    (s.input.closed = false → exec (.lda s.cfg.inAddr) s = .next s) ∧
    (s.input.closed = true → exec (.lda s.cfg.inAddr) s =
      .next { s with status := .faulted, fault := some (.inputExhausted s.cfg.inAddr) })

/-- STA to any address but OUT_ADDR stores A in the buffer, in that cell only. For an address other than OUT_ADDR
(IN_ADDR included), in a state whose buffer is in canonical form, exec of STA answers a state with that cell reading
as A, every other cell as before, the pc three further and CYCLE_COST(0x32) added; nothing else changes. It rests on
choices of the model: log entries 11, 12. (42_data_transfer.md R145, R146, 20_memory.md R55) -/
def Obligations.StaStoresToBuffer : Prop :=
  ∀ (s : State) (a : Word), a ≠ s.cfg.outAddr → s.mem.wf = true →
    ∃ m : Memory, exec (.sta a) s =
      .next { s with mem := m, pc := s.pc + 3, cycles := s.cycles + cyclesOfOpcode s.cfg 0x32#8 } ∧
      memRead m a.toNat = s.regs.a ∧ ∀ b : Word, b ≠ a → memRead m b.toNat = readBuf s b

/-- STA to OUT_ADDR appends A to the output stream and leaves the buffer alone. exec of STA OUT_ADDR answers the
state with A appended to Out, the pc three further and CYCLE_COST(0x32) added; nothing else changes, the buffer
included. It rests on choices of the model: log entries 12, 14. (42_data_transfer.md R145, R146, 20_memory.md R56) -/
def Obligations.StaWritesOutput : Prop :=
  ∀ s : State, exec (.sta s.cfg.outAddr) s = .next { s with
    output := s.output ++ [s.regs.a]
    pc := s.pc + 3
    cycles := s.cycles + cyclesOfOpcode s.cfg 0x32#8 }

/-- MOV B,A copies A to B. exec of MOV B,A answers the state with B equal to A, the pc one further and
CYCLE_COST(0x47) added; nothing else changes. It rests on choices of the model: log entry 12. (42_data_transfer.md
R150) -/
def Obligations.MovBACopies : Prop :=
  ∀ s : State, exec .movBA s = .next { s with
    regs := { s.regs with b := s.regs.a }
    pc := s.pc + 1
    cycles := s.cycles + cyclesOfOpcode s.cfg 0x47#8 }

/-- ADD B writes (A + B) mod 256 to A, and changes only A, flags, pc and cycles besides. exec of ADD B answers a
state in which A is the sum modulo 256, the pc is one further and CYCLE_COST(0x80) is added; nothing else changes
but the flags (AddBFlags, AddBAuxParity) and the model's draw counter. It rests on choices of the model: log entry
12. (43_arithmetic.md R165, R167, R168) -/
def Obligations.AddBAdds : Prop :=
  ∀ s : State, ∃ t, exec .addB s = .next t ∧
    t.regs.a.toNat = (s.regs.a.toNat + s.regs.b.toNat) % 256 ∧
    t = { s with
      regs := { s.regs with a := t.regs.a }
      pc := s.pc + 1
      cycles := s.cycles + cyclesOfOpcode s.cfg 0x80#8
      flags := t.flags
      draws := t.draws }

/-- ADD B sets C, S and Z from the exact sum and the truncated result. exec of ADD B answers a state in which C is
set exactly when the unsigned sum exceeds 255, S is bit 7 of the truncated result, and Z is set exactly when the
truncated result is 0; each is written both ways, under every policy. (R161, R162, R163) -/
def Obligations.AddBFlags : Prop :=
  ∀ s : State, ∃ t, exec .addB s = .next t ∧
    (t.flags.c = true ↔ s.regs.a.toNat + s.regs.b.toNat > 255) ∧
    t.flags.s = (BitVec.ofNat 8 (s.regs.a.toNat + s.regs.b.toNat)).getLsbD 7 ∧
    (t.flags.z = true ↔ (s.regs.a.toNat + s.regs.b.toNat) % 256 = 0)

/-- AC and P after ADD B follow FLAG_AC_P_POLICY. exec of ADD B answers a state in which AC and P are as before
under the policy unchanged; two fresh free bits, the next two draws, under havoc; and the Intel 8080's values under
intel8080: AC set exactly when the low nibbles sum above 15, P exactly when the result has an even number of 1 bits.
That a parameter decides, and its three policies, are decision D14, the rule of intel8080 from general knowledge
(log entry 10); what the free bits are is left open (log entry 9). It rests on choices of the model: log entries 9,
10. (43_arithmetic.md R164, 90_conflicts.md C4) -/
def Obligations.AddBAuxParity : Prop :=
  ∀ s : State, ∃ t, exec .addB s = .next t ∧
    (s.cfg.flagPolicy = .unchanged → t.flags.ac = s.flags.ac ∧ t.flags.p = s.flags.p ∧ t.draws = s.draws) ∧
    (s.cfg.flagPolicy = .havoc → t.flags.ac = Config.freeBit s.draws ∧
      t.flags.p = Config.freeBit (s.draws + 1) ∧ t.draws = s.draws + 2) ∧
    (s.cfg.flagPolicy = .intel8080 →
      (t.flags.ac = true ↔ s.regs.a.toNat % 16 + s.regs.b.toNat % 16 > 15) ∧
      (t.flags.p = true ↔ ((List.range 8).filter fun k => t.regs.a.getLsbD k).length % 2 = 0) ∧ t.draws = s.draws)

/-- HLT adds its own cycle cost, advances the pc and halts. exec of HLT answers the state with the pc one further,
CYCLE_COST(0x76) added and status Halted; nothing else changes. It rests on choices of the model: log entry 12.
(44_machine_control.md R181, R182, R184) -/
def Obligations.HltHalts : Prop :=
  ∀ s : State, exec .hlt s = .next { s with
    pc := s.pc + 1
    cycles := s.cycles + cyclesOfOpcode s.cfg 0x76#8
    status := .halted }

/-- Frame of every instruction but STA: no byte of memory changes, nor the output stream. For every instruction that
is not STA (nop, the candidates, lda, movBA, addB, hlt and every unimplemented row): when exec gives a next state,
every byte of the buffer reads as before and Out is as before. (42_data_transfer.md R145, 20_memory.md R65, R70) -/
def Obligations.OnlyStaStores : Prop :=
  ∀ (i : Instr) (s t : State), (∀ a, i ≠ .sta a) → exec i s = .next t →
    (∀ a, readBuf t a = readBuf s a) ∧ t.output = s.output

/-- Frame of the registers: only LDA and ADD B write A, only MOV B,A writes B, nothing writes the rest. For every
instruction, when exec gives a next state: C, D, E, H, L, sp and the parameters are as before; A is as before unless
the instruction is LDA or ADD B; B is as before unless it is MOV B,A. (10_state.md R21, R26, R36) -/
def Obligations.RegisterFrame : Prop :=
  ∀ (i : Instr) (s t : State), exec i s = .next t →
    t.regs.c = s.regs.c ∧ t.regs.d = s.regs.d ∧ t.regs.e = s.regs.e ∧ t.regs.h = s.regs.h ∧ t.regs.l = s.regs.l ∧
    t.sp = s.sp ∧ t.cfg = s.cfg ∧
    ((∀ a, i ≠ .lda a) → i ≠ .addB → t.regs.a = s.regs.a) ∧ (i ≠ .movBA → t.regs.b = s.regs.b)

/-- Frame of the flags: only ADD B writes flags, and AC and P only as the policy says. For every instruction, when
exec gives a next state: every flag is as before unless the instruction is ADD B, and ADD B leaves AC and P as
before under the policy unchanged. It rests on choices of the model: log entry 10. (10_state.md R28,
43_arithmetic.md R160, 40_fetch_decode_execute.md R111) -/
def Obligations.FlagFrame : Prop :=
  ∀ (i : Instr) (s t : State), exec i s = .next t →
    (i ≠ .addB → t.flags = s.flags) ∧
    (s.cfg.flagPolicy = .unchanged → t.flags.ac = s.flags.ac ∧ t.flags.p = s.flags.p)

/-- Frame of STA: nothing changes but the byte stored to (or Out), the pc and cycles. When exec of STA a gives a
next state, from a state whose buffer is in canonical form: registers, sp, flags, status, fault record, input and
parameters are as before; if a is OUT_ADDR every byte of the buffer is as before; otherwise Out is as before and so
is every byte of the buffer at an address other than a. It rests on choices of the model: log entry 11.
(42_data_transfer.md R145, R146) -/
def Obligations.StaFrame : Prop :=
  ∀ (a : Word) (s t : State), s.mem.wf = true → exec (.sta a) s = .next t →
    t.regs = s.regs ∧ t.sp = s.sp ∧ t.flags = s.flags ∧ t.status = s.status ∧ t.fault = s.fault ∧
    t.input = s.input ∧ t.cfg = s.cfg ∧ t.draws = s.draws ∧
    (a = s.cfg.outAddr → ∀ b, readBuf t b = readBuf s b) ∧
    (a ≠ s.cfg.outAddr → t.output = s.output ∧ ∀ b, b ≠ a → readBuf t b = readBuf s b)

/-- Frame of status and fault record: only HLT and a fault write the status, only a fault the record. For every
instruction, when exec gives a next state, one of three holds: status and fault record are as before; the
instruction is HLT, the status is Halted and the record as before; or a fault was taken: the status is Faulted, a
record is there, and everything else is as before. It rests on choices of the model: log entry 6. (10_state.md R30,
R32, 40_fetch_decode_execute.md R115, R116) -/
def Obligations.StatusAndFaultFrame : Prop :=
  ∀ (i : Instr) (s t : State), exec i s = .next t →
    (t.status = s.status ∧ t.fault = s.fault) ∨
    (i = .hlt ∧ t.status = .halted ∧ t.fault = s.fault) ∨
    (∃ f, t = { s with status := .faulted, fault := some f })

/-- Frame of the input stream: only LDA from IN_ADDR consumes input in its execute part, one byte. For every
instruction, when exec gives a next state: the input stream is as before unless the instruction is LDA IN_ADDR; then
it is as before or has lost its first byte. It rests on choices of the model: log entry 7. (20_memory.md R54, R65,
10_state.md R35) -/
def Obligations.InputFrame : Prop :=
  ∀ (i : Instr) (s t : State), exec i s = .next t →
    t.input = s.input ∨ (i = .lda s.cfg.inAddr ∧ ∃ b, s.input.pending = b :: t.input.pending ∧
      t.input.closed = s.input.closed)

/-- A completed instruction leaves the pc at trunc_16(p + n), n its size. For every instruction run from status
Running: when exec gives a next state that is not Faulted, and the instruction did not wait for input, the pc is the
old pc plus the size of its opcode, modulo 65536. It rests on choices of the model: log entries 7, 12. (10_state.md
R25, 40_fetch_decode_execute.md R109, 30_encoding.md R80) -/
def Obligations.PcAfterInstruction : Prop :=
  ∀ (i : Instr) (s t : State), s.status = .running → execWaits i s = false → exec i s = .next t →
    t.status ≠ .faulted → t.pc.toNat = (s.pc.toNat + sizeOfOpcode (opcodeOf i)) % 65536

/-- A step runs the instruction whose bytes are at the pc. From a Running state none of whose instruction bytes is
fetched at IN_ADDR: if the three buffer bytes from the pc on decode to i, the step is exec of i at that state (the
pc advance and cycle accounting are part of exec; a wait of exec leaves the state as it is). It rests on choices of
the model: log entries 7, 12. (40_fetch_decode_execute.md R103, R107, R110, R117) -/
def Obligations.StepRunsDecodedInstruction : Prop :=
  ∀ (s : State) (i : Instr) (rest : List Byte), s.status = .running → s.fetchReadsInput = false →
    decode [readBuf s s.pc, readBuf s (s.pc + 1), readBuf s (s.pc + 2)] = .instr i rest → step s = exec i s

/-- A byte of the instruction fetched at IN_ADDR comes from the input stream. From a Running state with a byte b
pending, where the opcode (first clause), the operand low byte (second) or the operand high byte (third) is fetched
at IN_ADDR: the bytes decoded have b in that place and buffer bytes elsewhere, and the step is exec of what they
decode to at the state with b consumed; if that waits for input, the step leaves the state as it was, b still
pending. It rests on choices of the model: log entries 7, 12. (20_memory.md R73, 40_fetch_decode_execute.md R103,
R107, 30_encoding.md R84) -/
def Obligations.StepFetchesFromInput : Prop :=
  ∀ (s : State) (b : Byte) (rest more : List Byte) (i : Instr), s.status = .running → s.input.pending = b :: rest →
    (s.pc = s.cfg.inAddr → decode [b, readBuf s (s.pc + 1), readBuf s (s.pc + 2)] = .instr i more →
      step s = if execWaits i { s with input := ⟨rest, s.input.closed⟩ } then .next s
        else exec i { s with input := ⟨rest, s.input.closed⟩ }) ∧
    (s.pc + 1 = s.cfg.inAddr → operandCount (readBuf s s.pc) = 2 →
      decode [readBuf s s.pc, b, readBuf s (s.pc + 2)] = .instr i more →
      step s = if execWaits i { s with input := ⟨rest, s.input.closed⟩ } then .next s
        else exec i { s with input := ⟨rest, s.input.closed⟩ }) ∧
    (s.pc + 2 = s.cfg.inAddr → operandCount (readBuf s s.pc) = 2 →
      decode [readBuf s s.pc, readBuf s (s.pc + 1), b] = .instr i more →
      step s = if execWaits i { s with input := ⟨rest, s.input.closed⟩ } then .next s
        else exec i { s with input := ⟨rest, s.input.closed⟩ })

/-- A fetch at IN_ADDR with nothing pending holds while the stream is open, and faults when it is closed. From a
Running state that fetches a byte of its instruction at IN_ADDR with nothing pending: with the stream open the step
leaves the state unchanged; with the stream closed it takes InputExhausted(IN_ADDR), writing only the status and the
fault record. It rests on choices of the model: log entries 6, 7. (20_memory.md R59, R61, 40_fetch_decode_execute.md
R105, R108, 60_exceptions.md R204, R205) -/
def Obligations.FetchWithoutInput : Prop :=
  ∀ s : State, s.status = .running → s.fetchReadsInput = true → s.input.pending = [] →
    (s.input.closed = false → step s = .next s) ∧
    (s.input.closed = true →
      step s = .next { s with status := .faulted, fault := some (.inputExhausted s.cfg.inAddr) })

/-- A step that fetches an unimplemented opcode changes only status, fault record and, at IN_ADDR, the input. From a
Running state: if the opcode byte at the pc (the buffer's, or the next input byte when the pc is IN_ADDR) has no
execution rule, the step answers the state with status Faulted and fault UnimplementedOpcode(op, pc), everything
else as before, except that the input has lost that byte when the pc is IN_ADDR; bytes after the opcode are not
fetched. It rests on choices of the model: log entries 6, 13, 17. (60_exceptions.md R203, 40_fetch_decode_execute.md
R106) -/
def Obligations.UnimplementedStep : Prop :=
  ∀ s : State, s.status = .running →
    (s.pc ≠ s.cfg.inAddr → ruleOf s.cfg (readBuf s s.pc) = .unimplemented →
      step s = .next { s with
        status := .faulted, fault := some (.unimplementedOpcode (readBuf s s.pc) s.pc) }) ∧
    (∀ b rest, s.pc = s.cfg.inAddr → s.input.pending = b :: rest → ruleOf s.cfg b = .unimplemented →
      step s = .next { s with
        status := .faulted, fault := some (.unimplementedOpcode b s.pc), input := ⟨rest, s.input.closed⟩ })

/-- A step that holds after taking an input byte leaves it pending; a step that faults after taking one does not.
From a Running state with an LDA opcode at the pc, whose operand low byte is fetched at IN_ADDR and is the only byte
pending, and whose assembled address is IN_ADDR: with the stream open the step leaves the state unchanged, the byte
still pending; with the stream closed it takes InputExhausted(IN_ADDR) and the byte stays consumed. It rests on
choices of the model: log entries 3, 6, 7, 13. (40_fetch_decode_execute.md R105, R108, 60_exceptions.md R205) -/
def Obligations.HeldAttemptGivesInputBack : Prop :=
  ∀ (s : State) (lo : Byte), s.status = .running → s.pc + 1 = s.cfg.inAddr → readBuf s s.pc = 0x3A#8 →
    s.input.pending = [lo] → joinBytes (readBuf s (s.pc + 2)) lo = s.cfg.inAddr →
    (s.input.closed = false → step s = .next s) ∧
    (s.input.closed = true → step s = .next { s with
      status := .faulted, fault := some (.inputExhausted s.cfg.inAddr), input := ⟨[], true⟩ })

/-- Halted: the step leaves the state unchanged; Faulted: no step is enabled. From a Halted state the step answers
the same state (the outcome Final); from a Faulted state it stops with stepNotEnabled and the fault record the state
keeps. It rests on choices of the model: log entries 6, 8. (40_fetch_decode_execute.md R119, 44_machine_control.md
R183) -/
def Obligations.TerminalStates : Prop :=
  ∀ s : State,
    (s.status = .halted → step s = .next s ∧ stepKind s = .final) ∧
    (s.status = .faulted → step s = .fault (.stepNotEnabled s.fault) ∧ stepKind s = .notEnabled)

/-- A fault leaves everything as before the step but status, fault record and consumed input. If the step from a
Running state leaves the machine Faulted, the next state is the old one with status Faulted, a fault record, and
some bytes gone from the front of the input; pc, sp, registers, flags, cycles, Buf and Out keep their values. It
rests on choices of the model: log entries 6, 13. (40_fetch_decode_execute.md R116) -/
def Obligations.FaultIsPrecise : Prop :=
  ∀ s t : State, s.status = .running → step s = .next t → t.status = .faulted →
    ∃ f used rest, s.input.pending = used ++ rest ∧
      t = { s with status := .faulted, fault := some f, input := ⟨rest, s.input.closed⟩ }

/-- A Running machine becomes Halted only by fetching HLT. If the step from a Running state leaves the machine
Halted, the instruction fetched is HLT, the pc is one further, CYCLE_COST(0x76) was added, and registers, flags,
buffer and output are as before. It rests on choices of the model: log entry 12. (40_fetch_decode_execute.md R114,
R115, 44_machine_control.md R181, R184) -/
def Obligations.OnlyHltHalts : Prop :=
  ∀ s t : State, s.status = .running → step s = .next t → t.status = .halted →
    ∃ u, fetchInstr s = .ok .hlt u ∧ t.pc = s.pc + 1 ∧ t.cycles = s.cycles + cyclesOfOpcode s.cfg 0x76#8 ∧
      t.regs = s.regs ∧ t.flags = s.flags ∧ t.mem = s.mem ∧ t.output = s.output ∧ t.sp = s.sp

/-- A step that touches no input and fetches an opcode with a rule completes. From a Running state none of whose
instruction bytes is fetched at IN_ADDR, whose opcode has an execution rule, and whose operand address is not
IN_ADDR if the opcode is LDA's: the outcome of the step is Next, to a state that is not Faulted. It rests on choices
of the model: log entry 3. (40_fetch_decode_execute.md R118, R106, R112) -/
def Obligations.StepCompletesWhenAdmitted : Prop :=
  ∀ s : State, s.status = .running → s.fetchReadsInput = false →
    ruleOf s.cfg (readBuf s s.pc) ≠ .unimplemented →
    (readBuf s s.pc = 0x3A#8 → joinBytes (readBuf s (s.pc + 2)) (readBuf s (s.pc + 1)) ≠ s.cfg.inAddr) →
    stepKind s = .next ∧ ∃ t, step s = .next t ∧ t.status ≠ .faulted

/-- A step that does not hold commutes with the host appending input. From a Running state whose input stream is
open and whose step does not hold: the step answers a next state t, and the step from the state with bytes appended
to the input answers t with those bytes appended. When the host supplies its bytes makes no difference but to a
hold. It rests on choices of the model: log entries 7, 16. (40_fetch_decode_execute.md R105, R118, 20_memory.md R58,
R62) -/
def Obligations.LateInputChangesNothing : Prop :=
  ∀ (s : State) (bs : List Byte), s.status = .running → s.input.closed = false → stepWaits s = false →
    ∃ t, step s = .next t ∧ step (appendInput bs s) = .next (appendInput bs t)

/-- The buffer cell at IN_ADDR is never read: it makes no difference to anything else. For two states with buffers
in canonical form that differ at most in the buffer cell at IN_ADDR: if one steps to a next state so does the other,
and the next states differ at most in that cell; if one cannot step, neither can the other, with the same record.
(20_memory.md R57, R73, 40_fetch_decode_execute.md R121) -/
def Obligations.InputCellNeverRead : Prop :=
  ∀ s s' : State, s.mem.wf = true → s'.mem.wf = true → SameButInputCell s s' →
    (∀ t, step s = .next t → ∃ t', step s' = .next t' ∧ SameButInputCell t t') ∧
    (∀ f, step s = .fault f → step s' = .fault f)

/-- Flags, cycles, Out, sp, C, D, E, H and L influence nothing else. For two states that differ at most in flags,
cycles, output, sp and the registers C, D, E, H and L: if one steps to a next state so does the other, and the next
states differ at most in those. (10_state.md R21, R26, R29, R31, 20_memory.md R60) -/
def Obligations.UnreadStateInvisible : Prop :=
  ∀ s s' t : State, SameButUnread s s' → step s = .next t → ∃ t', step s' = .next t' ∧ SameButUnread t t'

/-- A step consumes input from the front, at most two bytes, and never closes the stream. If a step answers a next
state, the old pending input is the bytes consumed followed by the new pending input, at most two bytes were
consumed (one in the fetch, one by the data read), and the stream is open or closed as before. It rests on choices
of the model: log entry 13. (10_state.md R38, 20_memory.md R54, R58, R62) -/
def Obligations.InputConsumedInOrder : Prop :=
  ∀ s t : State, step s = .next t →
    ∃ used, s.input.pending = used ++ t.input.pending ∧ used.length ≤ 2 ∧ t.input.closed = s.input.closed

/-- A step appends at most one byte to the output, that of A, and takes none away. If a step answers a next state,
Out is as before, or is the old Out followed by the value of A. It rests on choices of the model: log entry 14.
(20_memory.md R60, R62, R65) -/
def Obligations.OutputOnlyGrows : Prop :=
  ∀ s t : State, step s = .next t → t.output = s.output ∨ t.output = s.output ++ [s.regs.a]

/-- The cycle counter never decreases, and grows by the cost of the opcode that completed. If a step answers a next
state, the cycles are as before, or an instruction was fetched and the cost of its opcode was added. It rests on
choices of the model: log entry 15. (10_state.md R31, 40_fetch_decode_execute.md R113, 60_exceptions.md R217) -/
def Obligations.CyclesNeverDecrease : Prop :=
  ∀ s t : State, step s = .next t → t.cycles = s.cycles ∨
    ∃ i u, fetchInstr s = .ok i u ∧ t.cycles = s.cycles + cyclesOfOpcode s.cfg (opcodeOf i)

/-- No step and no host action changes the parameters of the block. The parameters held in the state (the model's
representation of the constants of R36, log entry 1) are the same after any step and after any action of the host.
(10_state.md R36, 00_scope.md R11) -/
def Obligations.ParametersConstant : Prop :=
  (∀ s t : State, step s = .next t → t.cfg = s.cfg) ∧
  (∀ (act : EnvAction) (s t : State), envStep act s = some t → t.cfg = s.cfg)

/-- LDA then STA elsewhere copies the byte, and changes no other cell. From a state with its buffer in canonical
form. For load and store addresses that are no device addresses and differ: LDA then STA answers a state in which
the store cell reads as the load cell did, and every other cell as before. With IN_ADDR as the load address and a
byte pending, the stored byte is that input byte. With OUT_ADDR as the store address the byte, from the buffer or
from the input, goes to Out and no cell changes. It rests on choices of the model: log entries 11, 14.
(42_data_transfer.md R147, R141, R145, 20_memory.md R53, R55) -/
def Obligations.LoadStoreRoundTrip : Prop :=
  ∀ (s : State) (a b : Word), s.mem.wf = true →
    (a ≠ s.cfg.inAddr → a ≠ s.cfg.outAddr → b ≠ s.cfg.inAddr → b ≠ s.cfg.outAddr → a ≠ b →
      ∃ t u, exec (.lda a) s = .next t ∧ exec (.sta b) t = .next u ∧ readBuf u b = readBuf s a ∧
        ∀ c, c ≠ b → readBuf u c = readBuf s c) ∧
    (∀ v rest, a = s.cfg.inAddr → s.input.pending = v :: rest → b ≠ s.cfg.outAddr →
      ∃ t u, exec (.lda a) s = .next t ∧ exec (.sta b) t = .next u ∧ readBuf u b = v ∧
        ∀ c, c ≠ b → readBuf u c = readBuf s c) ∧
    (a ≠ s.cfg.inAddr → b = s.cfg.outAddr →
      ∃ t u, exec (.lda a) s = .next t ∧ exec (.sta b) t = .next u ∧ u.output = s.output ++ [readBuf s a] ∧
        ∀ c, readBuf u c = readBuf s c) ∧
    (∀ v rest, a = s.cfg.inAddr → s.input.pending = v :: rest → b = s.cfg.outAddr →
      ∃ t u, exec (.lda a) s = .next t ∧ exec (.sta b) t = .next u ∧ u.output = s.output ++ [v] ∧
        ∀ c, readBuf u c = readBuf s c)

/-- A store to the next opcode's address is what the next step fetches. From a Running state with its buffer in
canonical form, whose next instruction is STA with operand address pc + 3, no byte of it at IN_ADDR, and pc + 3 no
device address: the step answers a Running state t with pc + 3 as its pc, and the next step from t is that of the
opcode A: with A the HLT opcode it halts, with A an opcode without a rule it takes UnimplementedOpcode(A, pc + 3).
It rests on choices of the model: log entries 3, 6, 12. (20_memory.md R71, 42_data_transfer.md R146,
70_reset_and_hazards.md R239) -/
def Obligations.StoreToNextOpcodeIsFetched : Prop :=
  ∀ s : State, s.status = .running → s.mem.wf = true → s.fetchReadsInput = false → readBuf s s.pc = 0x32#8 →
    joinBytes (readBuf s (s.pc + 2)) (readBuf s (s.pc + 1)) = s.pc + 3 →
    s.pc + 3 ≠ s.cfg.inAddr → s.pc + 3 ≠ s.cfg.outAddr →
    ∃ t, step s = .next t ∧ t.status = .running ∧ t.pc = s.pc + 3 ∧ readBuf t t.pc = s.regs.a ∧
      (s.regs.a = 0x76#8 → step t = exec .hlt t) ∧
      (ruleOf s.cfg s.regs.a = .unimplemented →
        step t = .next { t with status := .faulted, fault := some (.unimplementedOpcode s.regs.a (s.pc + 3)) })

/-- Nothing leaves a Halted or Faulted state: only the host's streams can still change. From a state that is not
Running, every state reached by steps and host actions is that state but for its input and output streams: status,
fault record, registers, flags, pc, sp, cycles and buffer are kept. It rests on choices of the model: log entries 6,
8, 14. (40_fetch_decode_execute.md R119, 44_machine_control.md R183, 60_exceptions.md R210, R221) -/
def Obligations.TerminalStatesAreForever : Prop :=
  ∀ s t : State, s.status ≠ .running → Reachable s t → t = { s with input := t.input, output := t.output }

/-- Every step keeps the invariant. If the buffer is in canonical form, the fault record is there exactly when the
status is Faulted, and the record is one this machine can have raised, then the same holds of the state after any
step. It rests on choices of the model: log entries 4, 6. (10_state.md R32, R34, 60_exceptions.md R201, R204) -/
def Obligations.StepKeepsInv : Prop :=
  ∀ s t : State, s.Inv → step s = .next t → t.Inv

/-- Every action of the host keeps the invariant. If the invariant holds of a state, it holds of the state after any
action R58 allows the host. It rests on choices of the model: log entry 16. (10_state.md R32, R40, 20_memory.md R58,
R75) -/
def Obligations.HostActionsKeepInv : Prop :=
  ∀ (act : EnvAction) (s t : State), s.Inv → envStep act s = some t → t.Inv

/-- Every launch starts in a state that meets the invariant. Whatever the parameters, the image, the rest of
INIT_MEM (in canonical form) and the input stream: the state a launch starts in meets the invariant.
(70_reset_and_hazards.md R230, R233, 10_state.md R37) -/
def Obligations.LaunchHasInv : Prop :=
  ∀ (cfg : Config) (image : List Byte) (rest : Memory) (input : InputStream) (s : State), rest.wf = true →
    launch cfg image rest input = .started s → s.Inv

/-- The host appends and closes only while the stream is open, and touches nothing but In and Out. Appending bytes
is allowed exactly while the stream is open and adds them at the end; closing is allowed exactly while it is open;
taking output removes the oldest bytes of Out; every other field is as before. It rests on choices of the model: log
entries 14, 16. (10_state.md R40, 20_memory.md R58, R60, R75) -/
def Obligations.HostTouchesOnlyStreams : Prop :=
  ∀ (s : State) (bs : List Byte) (n : Nat),
    (s.input.closed = false →
      envStep (.append bs) s = some { s with input := ⟨s.input.pending ++ bs, false⟩ } ∧
      envStep .close s = some { s with input := ⟨s.input.pending, true⟩ }) ∧
    (s.input.closed = true → envStep (.append bs) s = none ∧ envStep .close s = none) ∧
    envStep (.take n) s = some { s with output := s.output.drop n }
end

