-- ==== Sys2Proof/Laws/Memory.lean ====
section
/-! SUPPORT. The laws of the buffer: a read after a write, and the canonical form. -/

namespace Sys2Proof.Machine

theorem memWfFrom_mono {lo lo' : Nat} {m : Memory} (h : memWfFrom lo m = true) (hle : lo' ≤ lo) :
    memWfFrom lo' m = true := by
  cases m with
  | nil => rfl
  | cons c m =>
    simp only [memWfFrom, Bool.and_eq_true, decide_eq_true_eq] at h ⊢
    exact ⟨⟨⟨by omega, h.1.1.2⟩, h.1.2⟩, h.2⟩

/-- A canonical buffer reads as the unlisted byte below its first cell. -/
theorem memRead_below {lo k : Nat} {m : Memory} (h : memWfFrom lo m = true) (hk : k < lo) :
    memRead m k = unlistedByte := by
  cases m with
  | nil => rfl
  | cons c m =>
    simp only [memWfFrom, Bool.and_eq_true, decide_eq_true_eq] at h
    have : k < c.1 := by omega
    simp [memRead, this]

/-- A read of the written address gives the byte written (20_memory.md R68). -/
theorem memRead_memWrite_same {lo : Nat} {m : Memory} (h : memWfFrom lo m = true) (k : Nat) (v : Byte) :
    memRead (memWrite m k v) k = v := by
  induction m generalizing lo with
  | nil => by_cases hv : v = unlistedByte <;> simp [memWrite, memRead, hv]
  | cons c m ih =>
    obtain ⟨a, b⟩ := c
    simp only [memWfFrom, Bool.and_eq_true, decide_eq_true_eq] at h
    rcases Nat.lt_trichotomy k a with hk | hk | hk
    · by_cases hv : v = unlistedByte <;> simp [memWrite, memRead, hk, hv]
    · subst hk
      by_cases hv : v = unlistedByte
      · simp [memWrite, hv, memRead_below h.2]
      · simp [memWrite, memRead, hv]
    · have h1 : ¬ k < a := by omega
      have h2 : k ≠ a := by omega
      simpa [memWrite, memRead, h1, h2] using ih h.2

/-- A read of any other address is as before the write (20_memory.md R68). -/
theorem memRead_memWrite_other {lo : Nat} {m : Memory} (h : memWfFrom lo m = true) {j k : Nat} (hjk : j ≠ k)
    (v : Byte) : memRead (memWrite m k v) j = memRead m j := by
  induction m generalizing lo with
  | nil => by_cases hv : v = unlistedByte <;> simp [memWrite, memRead, hv, hjk]
  | cons c m ih =>
    obtain ⟨a, b⟩ := c
    simp only [memWfFrom, Bool.and_eq_true, decide_eq_true_eq] at h
    rcases Nat.lt_trichotomy k a with hk | hk | hk
    · by_cases hv : v = unlistedByte
      · simp [memWrite, hk, hv]
      · simp only [memWrite, hk, if_pos, hv, if_neg, not_false_eq_true, memRead, hjk]
        by_cases hj : j < k
        · have : j < a := by omega
          simp [hj, this]
        · simp [hj]
    · subst hk
      by_cases hv : v = unlistedByte
      · simp only [memWrite, Nat.lt_irrefl, if_false, hv, if_true, memRead, hjk]
        by_cases hj : j < k
        · simp [hj, memRead_below h.2 (by omega : j < k + 1)]
        · simp [hj]
      · simp [memWrite, memRead, hv, hjk]
    · have h1 : ¬ k < a := by omega
      have h2 : k ≠ a := by omega
      simp [memWrite, memRead, h1, h2, ih h.2]

/-- A write inside the address space keeps the canonical form. -/
theorem memWfFrom_memWrite {lo : Nat} {m : Memory} (h : memWfFrom lo m = true) {k : Nat} (hlo : lo ≤ k)
    (hk : k < addressSpace) (v : Byte) : memWfFrom lo (memWrite m k v) = true := by
  induction m generalizing lo with
  | nil => by_cases hv : v = unlistedByte <;> simp [memWrite, memWfFrom, hv, hlo, hk]
  | cons c m ih =>
    obtain ⟨a, b⟩ := c
    have h0 := h
    simp only [memWfFrom, Bool.and_eq_true, decide_eq_true_eq, bne_iff_ne] at h
    rcases Nat.lt_trichotomy k a with hka | hka | hka
    · by_cases hv : v = unlistedByte
      · simpa [memWrite, hka, hv] using h0
      · have : k + 1 ≤ a := hka
        simp [memWrite, memWfFrom, hka, hv, hlo, hk, this, h.1.1.2, h.1.2, h.2]
    · subst hka
      by_cases hv : v = unlistedByte
      · simpa [memWrite, hv] using memWfFrom_mono h.2 (by omega : lo ≤ k + 1)
      · simp [memWrite, memWfFrom, hv, hlo, hk, h.2]
    · have h1 : ¬ k < a := by omega
      have h2 : k ≠ a := by omega
      simp [memWrite, memWfFrom, h1, h2, h.1.1.1, h.1.1.2, h.1.2, ih h.2 (by omega : a + 1 ≤ k)]

theorem Memory.wf_write {m : Memory} (h : m.wf = true) (a : Word) (v : Byte) :
    (Memory.wf (memWrite m a.toNat v)) = true :=
  memWfFrom_memWrite h (Nat.zero_le _) a.isLt v

theorem Memory.wf_writeBytes {m : Memory} (h : m.wf = true) (k : Nat) (vs : List Byte) :
    (Memory.wf (memWriteBytes m k vs)) = true := by
  induction vs generalizing m k with
  | nil => exact h
  | cons v vs ih =>
    refine ih ?_ (k + 1)
    by_cases hk : k < addressSpace
    · rw [if_pos hk]; exact memWfFrom_memWrite h (Nat.zero_le _) hk v
    · rw [if_neg hk]; exact h

/-- Outside the bytes an image load writes, the buffer is as it was (70_reset_and_hazards.md R234). -/
theorem memRead_memWriteBytes_other {m : Memory} (h : m.wf = true) (k : Nat) (vs : List Byte) {j : Nat}
    (hj : j < k ∨ k + vs.length ≤ j) : memRead (memWriteBytes m k vs) j = memRead m j := by
  induction vs generalizing m k with
  | nil => rfl
  | cons v vs ih =>
    simp only [List.length_cons] at hj
    simp only [memWriteBytes]
    by_cases hk : k < addressSpace
    · rw [if_pos hk, ih (memWfFrom_memWrite h (Nat.zero_le _) hk v) (k + 1) (by omega),
        memRead_memWrite_other h (by omega) v]
    · rw [if_neg hk, ih h (k + 1) (by omega)]

/-- An image load puts byte i of the image at address i from the start (70_reset_and_hazards.md R233). -/
theorem memRead_memWriteBytes_at {m : Memory} (h : m.wf = true) (k : Nat) (vs : List Byte) (i : Nat)
    (hi : i < vs.length) (hfit : k + vs.length ≤ addressSpace) :
    memRead (memWriteBytes m k vs) (k + i) = vs[i] := by
  induction vs generalizing m k i with
  | nil => exact absurd hi (Nat.not_lt_zero _)
  | cons v vs ih =>
    simp only [List.length_cons] at hi hfit
    have hk : k < addressSpace := by omega
    have hw : (Memory.wf (memWrite m k v)) = true := memWfFrom_memWrite h (Nat.zero_le _) hk v
    simp only [memWriteBytes, if_pos hk]
    cases i with
    | zero =>
      exact (memRead_memWriteBytes_other hw (k + 1) vs (Or.inl (Nat.lt_succ_self k))).trans
        (memRead_memWrite_same h k v)
    | succ i =>
      have := ih hw (k + 1) i (by omega) (by omega)
      rw [show k + (i + 1) = k + 1 + i by omega, this]
      rfl

theorem memRead_self {a : Nat} {b : Byte} {m : Memory} : memRead ((a, b) :: m) a = b := by
  simp [memRead]

theorem memRead_head_lt {lo a k : Nat} {b : Byte} {m : Memory} (_ : memWfFrom lo ((a, b) :: m) = true) (hk : a < k) :
    memRead ((a, b) :: m) k = memRead m k := by
  have h1 : ¬ k < a := by omega
  have h2 : k ≠ a := by omega
  simp [memRead, h1, h2]

/-- Canonical buffers that read alike are the same list: equal memories are equal data. -/
theorem memory_ext {lo : Nat} {m n : Memory} (hm : memWfFrom lo m = true) (hn : memWfFrom lo n = true)
    (h : ∀ k, memRead m k = memRead n k) : m = n := by
  induction m generalizing lo n with
  | nil =>
    cases n with
    | nil => rfl
    | cons c n =>
      obtain ⟨a, b⟩ := c
      simp only [memWfFrom, Bool.and_eq_true, bne_iff_ne] at hn
      exact absurd ((memRead_self (m := n)).symm.trans (h a).symm) hn.1.2
  | cons c m ih =>
    obtain ⟨a, b⟩ := c
    have hm' := hm
    simp only [memWfFrom, Bool.and_eq_true, decide_eq_true_eq, bne_iff_ne] at hm'
    cases n with
    | nil => exact absurd ((memRead_self (m := m)).symm.trans (h a)) hm'.1.2
    | cons d n =>
      obtain ⟨a', b'⟩ := d
      have hn' := hn
      simp only [memWfFrom, Bool.and_eq_true, decide_eq_true_eq, bne_iff_ne] at hn'
      have hra := h a
      have hra' := h a'
      rw [memRead_self] at hra hra'
      rcases Nat.lt_trichotomy a a' with hlt | heq | hlt
      · rw [memRead, if_pos hlt] at hra
        exact absurd hra hm'.1.2
      · subst heq
        rw [memRead_self] at hra
        subst hra
        congr 1
        refine ih hm'.2 hn'.2 fun k => ?_
        rcases Nat.lt_or_ge a k with hk | hk
        · rw [← memRead_head_lt hm hk, ← memRead_head_lt hn hk, h k]
        · rw [memRead_below hm'.2 (by omega), memRead_below hn'.2 (by omega)]
      · rw [memRead, if_pos hlt] at hra'
        exact absurd hra'.symm hn'.1.2

end Sys2Proof.Machine
end

