-- ==== Sys2Proof/Laws/State.lean ====
section
/-! SUPPORT. The small lemmas of the state's operations: what each does to each field. -/

namespace Sys2Proof.Machine

@[simp] theorem writeBuf_cfg (a : Word) (v : Byte) (s : State) : (writeBuf a v s).cfg = s.cfg := rfl
@[simp] theorem writeBuf_regs (a : Word) (v : Byte) (s : State) : (writeBuf a v s).regs = s.regs := rfl
@[simp] theorem writeBuf_pc (a : Word) (v : Byte) (s : State) : (writeBuf a v s).pc = s.pc := rfl
@[simp] theorem writeBuf_sp (a : Word) (v : Byte) (s : State) : (writeBuf a v s).sp = s.sp := rfl
@[simp] theorem writeBuf_flags (a : Word) (v : Byte) (s : State) : (writeBuf a v s).flags = s.flags := rfl
@[simp] theorem writeBuf_status (a : Word) (v : Byte) (s : State) : (writeBuf a v s).status = s.status := rfl
@[simp] theorem writeBuf_cycles (a : Word) (v : Byte) (s : State) : (writeBuf a v s).cycles = s.cycles := rfl
@[simp] theorem writeBuf_fault (a : Word) (v : Byte) (s : State) : (writeBuf a v s).fault = s.fault := rfl
@[simp] theorem writeBuf_mem (a : Word) (v : Byte) (s : State) : (writeBuf a v s).mem = memWrite s.mem a.toNat v := rfl
@[simp] theorem writeBuf_input (a : Word) (v : Byte) (s : State) : (writeBuf a v s).input = s.input := rfl
@[simp] theorem writeBuf_output (a : Word) (v : Byte) (s : State) : (writeBuf a v s).output = s.output := rfl
@[simp] theorem writeBuf_draws (a : Word) (v : Byte) (s : State) : (writeBuf a v s).draws = s.draws := rfl

@[simp] theorem advancePc_cfg (n : Nat) (s : State) : (advancePc n s).cfg = s.cfg := rfl
@[simp] theorem advancePc_regs (n : Nat) (s : State) : (advancePc n s).regs = s.regs := rfl
@[simp] theorem advancePc_pc (n : Nat) (s : State) : (advancePc n s).pc = s.pc + BitVec.ofNat 16 n := rfl
@[simp] theorem advancePc_sp (n : Nat) (s : State) : (advancePc n s).sp = s.sp := rfl
@[simp] theorem advancePc_flags (n : Nat) (s : State) : (advancePc n s).flags = s.flags := rfl
@[simp] theorem advancePc_status (n : Nat) (s : State) : (advancePc n s).status = s.status := rfl
@[simp] theorem advancePc_cycles (n : Nat) (s : State) : (advancePc n s).cycles = s.cycles := rfl
@[simp] theorem advancePc_fault (n : Nat) (s : State) : (advancePc n s).fault = s.fault := rfl
@[simp] theorem advancePc_mem (n : Nat) (s : State) : (advancePc n s).mem = s.mem := rfl
@[simp] theorem advancePc_input (n : Nat) (s : State) : (advancePc n s).input = s.input := rfl
@[simp] theorem advancePc_output (n : Nat) (s : State) : (advancePc n s).output = s.output := rfl
@[simp] theorem advancePc_draws (n : Nat) (s : State) : (advancePc n s).draws = s.draws := rfl

@[simp] theorem addCycles_cfg (op : Byte) (s : State) : (addCycles op s).cfg = s.cfg := rfl
@[simp] theorem addCycles_regs (op : Byte) (s : State) : (addCycles op s).regs = s.regs := rfl
@[simp] theorem addCycles_pc (op : Byte) (s : State) : (addCycles op s).pc = s.pc := rfl
@[simp] theorem addCycles_sp (op : Byte) (s : State) : (addCycles op s).sp = s.sp := rfl
@[simp] theorem addCycles_flags (op : Byte) (s : State) : (addCycles op s).flags = s.flags := rfl
@[simp] theorem addCycles_status (op : Byte) (s : State) : (addCycles op s).status = s.status := rfl
@[simp] theorem addCycles_cycles (op : Byte) (s : State) : (addCycles op s).cycles = s.cycles + cyclesOfOpcode s.cfg op := rfl
@[simp] theorem addCycles_fault (op : Byte) (s : State) : (addCycles op s).fault = s.fault := rfl
@[simp] theorem addCycles_mem (op : Byte) (s : State) : (addCycles op s).mem = s.mem := rfl
@[simp] theorem addCycles_input (op : Byte) (s : State) : (addCycles op s).input = s.input := rfl
@[simp] theorem addCycles_output (op : Byte) (s : State) : (addCycles op s).output = s.output := rfl
@[simp] theorem addCycles_draws (op : Byte) (s : State) : (addCycles op s).draws = s.draws := rfl

@[simp] theorem enterHalted_cfg (s : State) : (enterHalted s).cfg = s.cfg := rfl
@[simp] theorem enterHalted_regs (s : State) : (enterHalted s).regs = s.regs := rfl
@[simp] theorem enterHalted_pc (s : State) : (enterHalted s).pc = s.pc := rfl
@[simp] theorem enterHalted_sp (s : State) : (enterHalted s).sp = s.sp := rfl
@[simp] theorem enterHalted_flags (s : State) : (enterHalted s).flags = s.flags := rfl
@[simp] theorem enterHalted_status (s : State) : (enterHalted s).status = .halted := rfl
@[simp] theorem enterHalted_cycles (s : State) : (enterHalted s).cycles = s.cycles := rfl
@[simp] theorem enterHalted_fault (s : State) : (enterHalted s).fault = s.fault := rfl
@[simp] theorem enterHalted_mem (s : State) : (enterHalted s).mem = s.mem := rfl
@[simp] theorem enterHalted_input (s : State) : (enterHalted s).input = s.input := rfl
@[simp] theorem enterHalted_output (s : State) : (enterHalted s).output = s.output := rfl
@[simp] theorem enterHalted_draws (s : State) : (enterHalted s).draws = s.draws := rfl

@[simp] theorem takeFault_cfg (f : FaultRecord) (s : State) : (takeFault f s).cfg = s.cfg := rfl
@[simp] theorem takeFault_regs (f : FaultRecord) (s : State) : (takeFault f s).regs = s.regs := rfl
@[simp] theorem takeFault_pc (f : FaultRecord) (s : State) : (takeFault f s).pc = s.pc := rfl
@[simp] theorem takeFault_sp (f : FaultRecord) (s : State) : (takeFault f s).sp = s.sp := rfl
@[simp] theorem takeFault_flags (f : FaultRecord) (s : State) : (takeFault f s).flags = s.flags := rfl
@[simp] theorem takeFault_status (f : FaultRecord) (s : State) : (takeFault f s).status = .faulted := rfl
@[simp] theorem takeFault_cycles (f : FaultRecord) (s : State) : (takeFault f s).cycles = s.cycles := rfl
@[simp] theorem takeFault_fault (f : FaultRecord) (s : State) : (takeFault f s).fault = some f := rfl
@[simp] theorem takeFault_mem (f : FaultRecord) (s : State) : (takeFault f s).mem = s.mem := rfl
@[simp] theorem takeFault_input (f : FaultRecord) (s : State) : (takeFault f s).input = s.input := rfl
@[simp] theorem takeFault_output (f : FaultRecord) (s : State) : (takeFault f s).output = s.output := rfl
@[simp] theorem takeFault_draws (f : FaultRecord) (s : State) : (takeFault f s).draws = s.draws := rfl

@[simp] theorem appendInput_cfg (bs : List Byte) (s : State) : (appendInput bs s).cfg = s.cfg := rfl
@[simp] theorem appendInput_regs (bs : List Byte) (s : State) : (appendInput bs s).regs = s.regs := rfl
@[simp] theorem appendInput_pc (bs : List Byte) (s : State) : (appendInput bs s).pc = s.pc := rfl
@[simp] theorem appendInput_sp (bs : List Byte) (s : State) : (appendInput bs s).sp = s.sp := rfl
@[simp] theorem appendInput_flags (bs : List Byte) (s : State) : (appendInput bs s).flags = s.flags := rfl
@[simp] theorem appendInput_status (bs : List Byte) (s : State) : (appendInput bs s).status = s.status := rfl
@[simp] theorem appendInput_cycles (bs : List Byte) (s : State) : (appendInput bs s).cycles = s.cycles := rfl
@[simp] theorem appendInput_fault (bs : List Byte) (s : State) : (appendInput bs s).fault = s.fault := rfl
@[simp] theorem appendInput_mem (bs : List Byte) (s : State) : (appendInput bs s).mem = s.mem := rfl
@[simp] theorem appendInput_input (bs : List Byte) (s : State) : (appendInput bs s).input = ⟨s.input.pending ++ bs, s.input.closed⟩ := rfl
@[simp] theorem appendInput_output (bs : List Byte) (s : State) : (appendInput bs s).output = s.output := rfl
@[simp] theorem appendInput_draws (bs : List Byte) (s : State) : (appendInput bs s).draws = s.draws := rfl

@[simp] theorem closeInput_cfg (s : State) : (closeInput s).cfg = s.cfg := rfl
@[simp] theorem closeInput_regs (s : State) : (closeInput s).regs = s.regs := rfl
@[simp] theorem closeInput_pc (s : State) : (closeInput s).pc = s.pc := rfl
@[simp] theorem closeInput_sp (s : State) : (closeInput s).sp = s.sp := rfl
@[simp] theorem closeInput_flags (s : State) : (closeInput s).flags = s.flags := rfl
@[simp] theorem closeInput_status (s : State) : (closeInput s).status = s.status := rfl
@[simp] theorem closeInput_cycles (s : State) : (closeInput s).cycles = s.cycles := rfl
@[simp] theorem closeInput_fault (s : State) : (closeInput s).fault = s.fault := rfl
@[simp] theorem closeInput_mem (s : State) : (closeInput s).mem = s.mem := rfl
@[simp] theorem closeInput_input (s : State) : (closeInput s).input = ⟨s.input.pending, true⟩ := rfl
@[simp] theorem closeInput_output (s : State) : (closeInput s).output = s.output := rfl
@[simp] theorem closeInput_draws (s : State) : (closeInput s).draws = s.draws := rfl

@[simp] theorem dropOutput_cfg (n : Nat) (s : State) : (dropOutput n s).cfg = s.cfg := rfl
@[simp] theorem dropOutput_regs (n : Nat) (s : State) : (dropOutput n s).regs = s.regs := rfl
@[simp] theorem dropOutput_pc (n : Nat) (s : State) : (dropOutput n s).pc = s.pc := rfl
@[simp] theorem dropOutput_sp (n : Nat) (s : State) : (dropOutput n s).sp = s.sp := rfl
@[simp] theorem dropOutput_flags (n : Nat) (s : State) : (dropOutput n s).flags = s.flags := rfl
@[simp] theorem dropOutput_status (n : Nat) (s : State) : (dropOutput n s).status = s.status := rfl
@[simp] theorem dropOutput_cycles (n : Nat) (s : State) : (dropOutput n s).cycles = s.cycles := rfl
@[simp] theorem dropOutput_fault (n : Nat) (s : State) : (dropOutput n s).fault = s.fault := rfl
@[simp] theorem dropOutput_mem (n : Nat) (s : State) : (dropOutput n s).mem = s.mem := rfl
@[simp] theorem dropOutput_input (n : Nat) (s : State) : (dropOutput n s).input = s.input := rfl
@[simp] theorem dropOutput_output (n : Nat) (s : State) : (dropOutput n s).output = s.output.drop n := rfl
@[simp] theorem dropOutput_draws (n : Nat) (s : State) : (dropOutput n s).draws = s.draws := rfl

@[simp] theorem setReg_cfg (r : Reg) (v : Byte) (s : State) : (setReg r v s).cfg = s.cfg := by cases r <;> rfl
@[simp] theorem setReg_pc (r : Reg) (v : Byte) (s : State) : (setReg r v s).pc = s.pc := by cases r <;> rfl
@[simp] theorem setReg_sp (r : Reg) (v : Byte) (s : State) : (setReg r v s).sp = s.sp := by cases r <;> rfl
@[simp] theorem setReg_flags (r : Reg) (v : Byte) (s : State) : (setReg r v s).flags = s.flags := by cases r <;> rfl
@[simp] theorem setReg_status (r : Reg) (v : Byte) (s : State) : (setReg r v s).status = s.status := by cases r <;> rfl
@[simp] theorem setReg_cycles (r : Reg) (v : Byte) (s : State) : (setReg r v s).cycles = s.cycles := by cases r <;> rfl
@[simp] theorem setReg_fault (r : Reg) (v : Byte) (s : State) : (setReg r v s).fault = s.fault := by cases r <;> rfl
@[simp] theorem setReg_mem (r : Reg) (v : Byte) (s : State) : (setReg r v s).mem = s.mem := by cases r <;> rfl
@[simp] theorem setReg_input (r : Reg) (v : Byte) (s : State) : (setReg r v s).input = s.input := by cases r <;> rfl
@[simp] theorem setReg_output (r : Reg) (v : Byte) (s : State) : (setReg r v s).output = s.output := by cases r <;> rfl
@[simp] theorem setReg_draws (r : Reg) (v : Byte) (s : State) : (setReg r v s).draws = s.draws := by cases r <;> rfl

@[simp] theorem busWrite_cfg (a : Word) (v : Byte) (s : State) : (busWrite a v s).cfg = s.cfg := by unfold busWrite; split <;> rfl
@[simp] theorem busWrite_regs (a : Word) (v : Byte) (s : State) : (busWrite a v s).regs = s.regs := by unfold busWrite; split <;> rfl
@[simp] theorem busWrite_pc (a : Word) (v : Byte) (s : State) : (busWrite a v s).pc = s.pc := by unfold busWrite; split <;> rfl
@[simp] theorem busWrite_sp (a : Word) (v : Byte) (s : State) : (busWrite a v s).sp = s.sp := by unfold busWrite; split <;> rfl
@[simp] theorem busWrite_flags (a : Word) (v : Byte) (s : State) : (busWrite a v s).flags = s.flags := by unfold busWrite; split <;> rfl
@[simp] theorem busWrite_status (a : Word) (v : Byte) (s : State) : (busWrite a v s).status = s.status := by unfold busWrite; split <;> rfl
@[simp] theorem busWrite_cycles (a : Word) (v : Byte) (s : State) : (busWrite a v s).cycles = s.cycles := by unfold busWrite; split <;> rfl
@[simp] theorem busWrite_fault (a : Word) (v : Byte) (s : State) : (busWrite a v s).fault = s.fault := by unfold busWrite; split <;> rfl
@[simp] theorem busWrite_mem (a : Word) (v : Byte) (s : State) : (busWrite a v s).mem = if a = s.cfg.outAddr then s.mem else memWrite s.mem a.toNat v := by unfold busWrite; split <;> rfl
@[simp] theorem busWrite_input (a : Word) (v : Byte) (s : State) : (busWrite a v s).input = s.input := by unfold busWrite; split <;> rfl
@[simp] theorem busWrite_output (a : Word) (v : Byte) (s : State) : (busWrite a v s).output = if a = s.cfg.outAddr then s.output ++ [v] else s.output := by unfold busWrite; split <;> rfl
@[simp] theorem busWrite_draws (a : Word) (v : Byte) (s : State) : (busWrite a v s).draws = s.draws := by unfold busWrite; split <;> rfl

@[simp] theorem setAuxParity_cfg (x y v : Byte) (s : State) : (setAuxParity x y v s).cfg = s.cfg := by unfold setAuxParity; split <;> rfl
@[simp] theorem setAuxParity_regs (x y v : Byte) (s : State) : (setAuxParity x y v s).regs = s.regs := by unfold setAuxParity; split <;> rfl
@[simp] theorem setAuxParity_pc (x y v : Byte) (s : State) : (setAuxParity x y v s).pc = s.pc := by unfold setAuxParity; split <;> rfl
@[simp] theorem setAuxParity_sp (x y v : Byte) (s : State) : (setAuxParity x y v s).sp = s.sp := by unfold setAuxParity; split <;> rfl
@[simp] theorem setAuxParity_status (x y v : Byte) (s : State) : (setAuxParity x y v s).status = s.status := by unfold setAuxParity; split <;> rfl
@[simp] theorem setAuxParity_cycles (x y v : Byte) (s : State) : (setAuxParity x y v s).cycles = s.cycles := by unfold setAuxParity; split <;> rfl
@[simp] theorem setAuxParity_fault (x y v : Byte) (s : State) : (setAuxParity x y v s).fault = s.fault := by unfold setAuxParity; split <;> rfl
@[simp] theorem setAuxParity_mem (x y v : Byte) (s : State) : (setAuxParity x y v s).mem = s.mem := by unfold setAuxParity; split <;> rfl
@[simp] theorem setAuxParity_input (x y v : Byte) (s : State) : (setAuxParity x y v s).input = s.input := by unfold setAuxParity; split <;> rfl
@[simp] theorem setAuxParity_output (x y v : Byte) (s : State) : (setAuxParity x y v s).output = s.output := by unfold setAuxParity; split <;> rfl

@[simp] theorem setAddFlags_cfg (x y : Byte) (s : State) : (setAddFlags x y s).cfg = s.cfg := by simp [setAddFlags]
@[simp] theorem setAddFlags_regs (x y : Byte) (s : State) : (setAddFlags x y s).regs = s.regs := by simp [setAddFlags]
@[simp] theorem setAddFlags_pc (x y : Byte) (s : State) : (setAddFlags x y s).pc = s.pc := by simp [setAddFlags]
@[simp] theorem setAddFlags_sp (x y : Byte) (s : State) : (setAddFlags x y s).sp = s.sp := by simp [setAddFlags]
@[simp] theorem setAddFlags_status (x y : Byte) (s : State) : (setAddFlags x y s).status = s.status := by simp [setAddFlags]
@[simp] theorem setAddFlags_cycles (x y : Byte) (s : State) : (setAddFlags x y s).cycles = s.cycles := by simp [setAddFlags]
@[simp] theorem setAddFlags_fault (x y : Byte) (s : State) : (setAddFlags x y s).fault = s.fault := by simp [setAddFlags]
@[simp] theorem setAddFlags_mem (x y : Byte) (s : State) : (setAddFlags x y s).mem = s.mem := by simp [setAddFlags]
@[simp] theorem setAddFlags_input (x y : Byte) (s : State) : (setAddFlags x y s).input = s.input := by simp [setAddFlags]
@[simp] theorem setAddFlags_output (x y : Byte) (s : State) : (setAddFlags x y s).output = s.output := by simp [setAddFlags]

@[simp] theorem addBToA_cfg (s : State) : (addBToA s).cfg = s.cfg := by simp [addBToA]
@[simp] theorem addBToA_regs (s : State) : (addBToA s).regs = { s.regs with a := s.regs.a + s.regs.b } := by simp [addBToA, setReg, getReg]
@[simp] theorem addBToA_pc (s : State) : (addBToA s).pc = s.pc := by simp [addBToA]
@[simp] theorem addBToA_sp (s : State) : (addBToA s).sp = s.sp := by simp [addBToA]
@[simp] theorem addBToA_flags (s : State) : (addBToA s).flags = (setAddFlags s.regs.a s.regs.b s).flags := by simp [addBToA, setReg, getReg]
@[simp] theorem addBToA_status (s : State) : (addBToA s).status = s.status := by simp [addBToA]
@[simp] theorem addBToA_cycles (s : State) : (addBToA s).cycles = s.cycles := by simp [addBToA]
@[simp] theorem addBToA_fault (s : State) : (addBToA s).fault = s.fault := by simp [addBToA]
@[simp] theorem addBToA_mem (s : State) : (addBToA s).mem = s.mem := by simp [addBToA]
@[simp] theorem addBToA_input (s : State) : (addBToA s).input = s.input := by simp [addBToA]
@[simp] theorem addBToA_output (s : State) : (addBToA s).output = s.output := by simp [addBToA]
@[simp] theorem addBToA_draws (s : State) : (addBToA s).draws = (setAddFlags s.regs.a s.regs.b s).draws := by simp [addBToA, setReg, getReg]

@[simp] theorem completeStep_cfg (op : Byte) (body : State → State) (s : State) :
    (completeStep op body s).cfg = (body (advancePc (sizeOfOpcode op) s)).cfg := rfl
@[simp] theorem completeStep_regs (op : Byte) (body : State → State) (s : State) :
    (completeStep op body s).regs = (body (advancePc (sizeOfOpcode op) s)).regs := rfl
@[simp] theorem completeStep_pc (op : Byte) (body : State → State) (s : State) :
    (completeStep op body s).pc = (body (advancePc (sizeOfOpcode op) s)).pc := rfl
@[simp] theorem completeStep_sp (op : Byte) (body : State → State) (s : State) :
    (completeStep op body s).sp = (body (advancePc (sizeOfOpcode op) s)).sp := rfl
@[simp] theorem completeStep_flags (op : Byte) (body : State → State) (s : State) :
    (completeStep op body s).flags = (body (advancePc (sizeOfOpcode op) s)).flags := rfl
@[simp] theorem completeStep_status (op : Byte) (body : State → State) (s : State) :
    (completeStep op body s).status = (body (advancePc (sizeOfOpcode op) s)).status := rfl
@[simp] theorem completeStep_cycles (op : Byte) (body : State → State) (s : State) :
    (completeStep op body s).cycles = (body (advancePc (sizeOfOpcode op) s)).cycles + cyclesOfOpcode (body (advancePc (sizeOfOpcode op) s)).cfg op := rfl
@[simp] theorem completeStep_fault (op : Byte) (body : State → State) (s : State) :
    (completeStep op body s).fault = (body (advancePc (sizeOfOpcode op) s)).fault := rfl
@[simp] theorem completeStep_mem (op : Byte) (body : State → State) (s : State) :
    (completeStep op body s).mem = (body (advancePc (sizeOfOpcode op) s)).mem := rfl
@[simp] theorem completeStep_input (op : Byte) (body : State → State) (s : State) :
    (completeStep op body s).input = (body (advancePc (sizeOfOpcode op) s)).input := rfl
@[simp] theorem completeStep_output (op : Byte) (body : State → State) (s : State) :
    (completeStep op body s).output = (body (advancePc (sizeOfOpcode op) s)).output := rfl
@[simp] theorem completeStep_draws (op : Byte) (body : State → State) (s : State) :
    (completeStep op body s).draws = (body (advancePc (sizeOfOpcode op) s)).draws := rfl

/-! ### Registers -/

@[simp] theorem getReg_setReg_same (r : Reg) (v : Byte) (s : State) : getReg r (setReg r v s) = v := by
  cases r <;> rfl

@[simp] theorem getReg_setReg_other {q r : Reg} (h : q ≠ r) (v : Byte) (s : State) :
    getReg q (setReg r v s) = getReg q s := by
  cases q <;> cases r <;> first | rfl | exact absurd rfl h

@[simp] theorem setReg_a_regs (v : Byte) (s : State) : (setReg .a v s).regs = { s.regs with a := v } := rfl
@[simp] theorem setReg_b_regs (v : Byte) (s : State) : (setReg .b v s).regs = { s.regs with b := v } := rfl

/-! ### Sizes and flags -/

@[simp] theorem sizeOfOpcode_nop : sizeOfOpcode 0x00#8 = 1 := by decide
@[simp] theorem sizeOfOpcode_sta : sizeOfOpcode 0x32#8 = 3 := by decide
@[simp] theorem sizeOfOpcode_lda : sizeOfOpcode 0x3A#8 = 3 := by decide
@[simp] theorem sizeOfOpcode_movBA : sizeOfOpcode 0x47#8 = 1 := by decide
@[simp] theorem sizeOfOpcode_hlt : sizeOfOpcode 0x76#8 = 1 := by decide
@[simp] theorem sizeOfOpcode_addB : sizeOfOpcode 0x80#8 = 1 := by decide

/-- S, Z and C after an addition do not depend on the policy (43_arithmetic.md R168). -/
theorem setAddFlags_szc (x y : Byte) (s : State) :
    (setAddFlags x y s).flags.s = signOf (x + y) ∧ (setAddFlags x y s).flags.z = zeroOf (x + y) ∧
      (setAddFlags x y s).flags.c = carryOut x y := by
  unfold setAddFlags setAuxParity
  split <;> exact ⟨rfl, rfl, rfl⟩

end Sys2Proof.Machine
end

