-- ==== Sys2Proof/Laws/Bus.lean ====
section
/-! SUPPORT. What the Bus operations can do: a read changes nothing but the input stream, and takes bytes from its front. -/

namespace Sys2Proof.Machine

/-- `t` is `s` after `used` has been taken from the front of the pending input. -/
def TookInput (used : List Byte) (s t : State) : Prop :=
  s.input.pending = used ++ t.input.pending ∧ t = { s with input := { s.input with pending := t.input.pending } }

theorem TookInput.refl (s : State) : TookInput [] s s := ⟨rfl, rfl⟩

theorem TookInput.trans {xs ys : List Byte} {s t u : State} (h : TookInput xs s t) (k : TookInput ys t u) :
    TookInput (xs ++ ys) s u := by
  obtain ⟨h1, h2⟩ := h
  obtain ⟨k1, k2⟩ := k
  refine ⟨by rw [h1, k1, List.append_assoc], ?_⟩
  rw [k2]
  simp only
  rw [h2]

theorem TookInput.frame {xs : List Byte} {s t : State} (h : TookInput xs s t) :
    t.cfg = s.cfg ∧ t.regs = s.regs ∧ t.pc = s.pc ∧ t.sp = s.sp ∧ t.flags = s.flags ∧ t.status = s.status ∧
      t.cycles = s.cycles ∧ t.fault = s.fault ∧ t.mem = s.mem ∧ t.input.closed = s.input.closed ∧
      t.output = s.output ∧ t.draws = s.draws := by
  rw [h.2]
  exact ⟨rfl, rfl, rfl, rfl, rfl, rfl, rfl, rfl, rfl, rfl, rfl, rfl⟩

/-- Everything a Bus read can do (20_memory.md R53, R54, R59, R61). -/
theorem busRead_cases (s : State) (a : Word) :
    (a ≠ s.cfg.inAddr ∧ busRead s a = .ok (readBuf s a) s) ∨
    (a = s.cfg.inAddr ∧ ∃ b rest, s.input.pending = b :: rest ∧
      busRead s a = .ok b { s with input := { s.input with pending := rest } }) ∨
    (a = s.cfg.inAddr ∧ s.input.pending = [] ∧ s.input.closed = false ∧ busRead s a = .hold) ∨
    (a = s.cfg.inAddr ∧ s.input.pending = [] ∧ s.input.closed = true ∧
      busRead s a = .raised (.inputExhausted s.cfg.inAddr) s) := by
  by_cases h : a = s.cfg.inAddr
  · cases hp : s.input.pending with
    | cons b rest => exact .inr (.inl ⟨h, b, rest, rfl, by simp [busRead, inputRead, h, hp]⟩)
    | nil =>
      cases hc : s.input.closed with
      | false => exact .inr (.inr (.inl ⟨h, rfl, rfl, by simp [busRead, inputRead, h, hp, hc]⟩))
      | true => exact .inr (.inr (.inr ⟨h, rfl, rfl, by simp [busRead, inputRead, h, hp, hc]⟩))
  · exact .inl ⟨h, by simp [busRead, h]⟩

/-- The raise of an exhausted stream, as every read that raises it gives it (60_exceptions.md R204). -/
def Exhausted (f : FaultRecord) (t : State) : Prop :=
  f = .inputExhausted t.cfg.inAddr ∧ t.input.pending = [] ∧ t.input.closed = true

theorem busRead_ok {s t : State} {a : Word} {b : Byte} (h : busRead s a = .ok b t) :
    (a ≠ s.cfg.inAddr ∧ b = readBuf s a ∧ t = s) ∨ (a = s.cfg.inAddr ∧ TookInput [b] s t) := by
  rcases busRead_cases s a with ⟨ha, h'⟩ | ⟨ha, c, rest, hp, h'⟩ | ⟨_, _, _, h'⟩ | ⟨_, _, _, h'⟩ <;> rw [h'] at h
  · cases h; exact .inl ⟨ha, rfl, rfl⟩
  · cases h; exact .inr ⟨ha, hp, rfl⟩
  · cases h
  · cases h

theorem busRead_raised {s t : State} {a : Word} {f : FaultRecord} (h : busRead s a = .raised f t) :
    t = s ∧ a = s.cfg.inAddr ∧ Exhausted f t := by
  rcases busRead_cases s a with ⟨_, h'⟩ | ⟨_, _, _, _, h'⟩ | ⟨_, _, _, h'⟩ | ⟨ha, hp, hc, h'⟩ <;> rw [h'] at h <;> cases h
  exact ⟨rfl, ha, rfl, hp, hc⟩

theorem busRead_hold {s : State} {a : Word} : busRead s a = .hold ↔ readWaits s a = true := by
  rcases busRead_cases s a with ⟨ha, h⟩ | ⟨ha, b, rest, hp, h⟩ | ⟨ha, hp, hc, h⟩ | ⟨ha, hp, hc, h⟩ <;>
    rw [h] <;> simp_all [readWaits]

/-- A run of Bus reads takes bytes from the front of the input, at most one per read, and changes nothing else. -/
theorem busReads_ok {n : Nat} {a : Word} {s t : State} {bs : List Byte} (h : busReads n a s = .ok bs t) :
    bs.length = n ∧ ∃ used, TookInput used s t ∧ used.length ≤ n := by
  induction n generalizing a s bs with
  | zero => cases h; exact ⟨rfl, [], .refl _, Nat.le_refl _⟩
  | succ n ih =>
    unfold busReads at h
    split at h
    · cases h
    · cases h
    · next b u hr =>
      split at h
      · cases h
      · cases h
      · next cs v hrs =>
        cases h
        obtain ⟨hl, used, ht, hle⟩ := ih hrs
        refine ⟨by simp [hl], ?_⟩
        rcases busRead_ok hr with ⟨_, _, rfl⟩ | ⟨_, htk⟩
        · exact ⟨used, ht, by omega⟩
        · exact ⟨[b] ++ used, htk.trans ht, by simp; omega⟩

theorem busReads_raised {n : Nat} {a : Word} {s t : State} {f : FaultRecord} (h : busReads n a s = .raised f t) :
    Exhausted f t ∧ ∃ used, TookInput used s t ∧ used.length ≤ n := by
  induction n generalizing a s with
  | zero => cases h
  | succ n ih =>
    unfold busReads at h
    split at h
    · cases h
    · next f' u hr =>
      cases h
      obtain ⟨rfl, _, he⟩ := busRead_raised hr
      exact ⟨he, [], .refl _, by simp⟩
    · next b u hr =>
      split at h
      · cases h
      · next f' v hrs =>
        cases h
        obtain ⟨he, used, ht, hle⟩ := ih hrs
        rcases busRead_ok hr with ⟨_, _, rfl⟩ | ⟨_, htk⟩
        · exact ⟨he, used, ht, by omega⟩
        · exact ⟨he, [b] ++ used, htk.trans ht, by simp; omega⟩
      · cases h

/-- Where no address is the input device's, a run of Bus reads reads the buffer. -/
theorem busReads_buffer {n : Nat} {a : Word} {s : State}
    (h : ∀ k < n, a + BitVec.ofNat 16 k ≠ s.cfg.inAddr) :
    busReads n a s = .ok ((List.range n).map fun k => readBuf s (a + BitVec.ofNat 16 k)) s := by
  induction n generalizing a with
  | zero => rfl
  | succ n ih =>
    have h0 : a ≠ s.cfg.inAddr := by simpa using h 0 (by omega)
    have hr : busRead s a = .ok (readBuf s a) s := by simp [busRead, h0]
    have hs : ∀ k, a + 1 + BitVec.ofNat 16 k = a + BitVec.ofNat 16 (k + 1) := by
      intro k
      rw [BitVec.add_assoc, Nat.add_comm k 1, BitVec.ofNat_add]
      rfl
    have hrest := ih (a := a + 1) fun k hk => by rw [hs]; exact h (k + 1) (by omega)
    simp only [busReads, hr, hrest, hs]
    simp [List.range_succ_eq_map, Function.comp_def]

/-! ### Fetching an instruction -/

/-- A fetched instruction took at most three bytes of the input, and changed nothing else. -/
theorem fetchInstr_ok {s t : State} {i : Instr} (h : fetchInstr s = .ok i t) : ∃ used, TookInput used s t := by
  unfold fetchInstr at h
  split at h
  · cases h
  · cases h
  · next op u hr =>
    split at h
    · cases h
    · cases h
    · next o v hro =>
      cases h
      unfold readOperand at hro
      split at hro
      · cases hro
      · cases hro
      · next bs w hrs =>
        cases hro
        obtain ⟨_, used, ht, _⟩ := busReads_ok hrs
        rcases busRead_ok hr with ⟨_, _, rfl⟩ | ⟨_, htk⟩
        · exact ⟨used, ht⟩
        · exact ⟨[op] ++ used, htk.trans ht⟩

theorem fetchInstr_raised {s t : State} {f : FaultRecord} (h : fetchInstr s = .raised f t) :
    Exhausted f t ∧ ∃ used, TookInput used s t := by
  unfold fetchInstr at h
  split at h
  · cases h
  · next f' u hr =>
    cases h
    obtain ⟨rfl, _, he⟩ := busRead_raised hr
    exact ⟨he, [], .refl _⟩
  · next op u hr =>
    split at h
    · cases h
    · next f' v hro =>
      cases h
      unfold readOperand at hro
      split at hro
      · cases hro
      · next f'' w hrs =>
        cases hro
        obtain ⟨he, used, ht, _⟩ := busReads_raised hrs
        rcases busRead_ok hr with ⟨_, _, rfl⟩ | ⟨_, htk⟩
        · exact ⟨he, used, ht⟩
        · exact ⟨he, [op] ++ used, htk.trans ht⟩
      · cases hro
    · cases h

end Sys2Proof.Machine
end

