-- ==== Sys2Proof/Laws/Decode.lean ====
section
/-! SUPPORT. The opcode map, cell by cell: which instruction an opcode decodes to, and how many operand bytes it takes. -/

namespace Sys2Proof

@[simp] theorem joinBytes_high_low (a : Word) : joinBytes (highByte a) (lowByte a) = a := by
  simp only [joinBytes, highByte, lowByte]
  ext k hk
  rw [BitVec.getElem_append]
  split
  · simp [BitVec.getLsbD_eq_getElem hk]
  · next h => simp [show 8 + (k - 8) = k by omega, BitVec.getLsbD_eq_getElem hk]

@[simp] theorem lowByte_joinBytes (hi lo : Byte) : lowByte (joinBytes hi lo) = lo := by
  simp only [joinBytes, lowByte]
  ext i h
  rw [BitVec.getElem_extractLsb', BitVec.getLsbD_append]
  simp [h]

@[simp] theorem highByte_joinBytes (hi lo : Byte) : highByte (joinBytes hi lo) = hi := by
  simp only [joinBytes, highByte]
  ext i h
  rw [BitVec.getElem_extractLsb', BitVec.getLsbD_append]
  simp [BitVec.getLsbD_eq_getElem h]

/-- The operand assembled from two bytes is `hi * 256 + lo` (30_encoding.md R84). -/
theorem joinBytes_toNat (hi lo : Byte) : (joinBytes hi lo).toNat = hi.toNat * 256 + lo.toNat := by
  have hlt := lo.isLt
  rw [joinBytes, BitVec.toNat_append, Nat.shiftLeft_eq, ← Nat.shiftLeft_eq, ← Nat.shiftLeft_add_eq_or_of_lt hlt,
    Nat.shiftLeft_eq]

/-- Only the opcodes of LDA and STA take operand bytes, two each. -/
theorem operandCount_eq (op : Byte) : operandCount op = if op = 0x32#8 ∨ op = 0x3A#8 then 2 else 0 := by
  revert op; decide

set_option maxRecDepth 2000 in
/-- The cell of an opcode is an instruction with that opcode. -/
theorem opcodeOf_decodeOpcode (op : Byte) (o : Operand) : opcodeOf (decodeOpcode op o) = op := by
  have h : ∀ a : Word, (instrMap a).map opcodeOf = (List.range 256).map (BitVec.ofNat 8) := fun _ => rfl
  have hl : op.toNat < ((instrMap (operandAddress o)).map opcodeOf).length := by
    rw [List.length_map, instrMap_length]; exact op.isLt
  have : ((instrMap (operandAddress o)).map opcodeOf)[op.toNat]'hl = op := by
    simp only [h, List.getElem_map, List.getElem_range, BitVec.ofNat_toNat, BitVec.setWidth_eq]
  rwa [List.getElem_map] at this

end Sys2Proof
end

