-- ==== Sys2Proof/Laws/Exec.lean ====
section
/-! SUPPORT. What `exec` can do, said once: one case per execution rule of the instruction table. -/

namespace Sys2Proof.Machine

theorem ruleOf_of_unimplemented {op : Byte} (h : baseRuleOf op = .unimplemented) (cfg : Config) :
    ruleOf cfg op = .unimplemented := by
  simp [ruleOf, h]

/-- An opcode whose base rule is not NOP has that rule, whatever the parameters. -/
theorem ruleOf_of_ne_nop {op : Byte} (h : baseRuleOf op ≠ .nop) (cfg : Config) : ruleOf cfg op = baseRuleOf op := by
  simp [ruleOf, h]

@[simp] theorem ruleOf_nop (cfg : Config) : ruleOf cfg 0x00#8 = .nop := by
  simp only [ruleOf, ne_eq, not_true_eq_false, false_and, and_false, if_false]; decide
@[simp] theorem ruleOf_sta (cfg : Config) : ruleOf cfg 0x32#8 = .storeA := ruleOf_of_ne_nop (by decide) cfg
@[simp] theorem ruleOf_lda (cfg : Config) : ruleOf cfg 0x3A#8 = .loadA := ruleOf_of_ne_nop (by decide) cfg
@[simp] theorem ruleOf_movBA (cfg : Config) : ruleOf cfg 0x47#8 = .moveBA := ruleOf_of_ne_nop (by decide) cfg
@[simp] theorem ruleOf_hlt (cfg : Config) : ruleOf cfg 0x76#8 = .halt := ruleOf_of_ne_nop (by decide) cfg
@[simp] theorem ruleOf_addB (cfg : Config) : ruleOf cfg 0x80#8 = .addB := ruleOf_of_ne_nop (by decide) cfg

/-- A candidate row by membership in `NOP_ALIASES` (41_no_operation.md R131). -/
theorem nopCandidate_cases (op : Byte) (hop : baseRuleOf op = .nop) (h0 : op ≠ 0x00#8) (s : State) :
    (ruleOf s.cfg op = .nop ∧ nopCandidate op s = completeStep op id s) ∨
    (ruleOf s.cfg op = .unimplemented ∧ nopCandidate op s = raiseUnimplemented op s) := by
  cases h : s.cfg.nopAliases.contains op with
  | true => exact .inl ⟨by simp only [ruleOf, hop, h]; simp, by simp only [nopCandidate, h, if_true]⟩
  | false =>
    refine .inr ⟨?_, ?_⟩
    · simp only [ruleOf, hop, h]; simp [h0]
    · simp only [nopCandidate, h]; rfl

/-- What an instruction does, by the rule of its opcode: a NOP completes; an opcode without a rule takes its fault; the
five other rules belong to one instruction each. -/
theorem exec_cases (i : Instr) (s : State) :
    (ruleOf s.cfg (opcodeOf i) = .nop ∧ exec i s = .next (completeStep (opcodeOf i) id s)) ∨
    (ruleOf s.cfg (opcodeOf i) = .unimplemented ∧ exec i s = .next (raiseUnimplemented (opcodeOf i) s)) ∨
    (∃ a, i = .sta a) ∨ (∃ a, i = .lda a) ∨ i = .movBA ∨ i = .addB ∨ i = .hlt := by
  have cand : ∀ op, baseRuleOf op = .nop → op ≠ 0x00#8 →
      (ruleOf s.cfg op = .nop ∧
        (.next (nopCandidate op s) : Host.Outcome State Fault Refusal) = .next (completeStep op id s)) ∨
      (ruleOf s.cfg op = .unimplemented ∧
        (.next (nopCandidate op s) : Host.Outcome State Fault Refusal) = .next (raiseUnimplemented op s)) ∨
      (∃ a, i = .sta a) ∨ (∃ a, i = .lda a) ∨ i = .movBA ∨ i = .addB ∨ i = .hlt := by
    intro op hop h0
    rcases nopCandidate_cases op hop h0 s with ⟨h, e⟩ | ⟨h, e⟩
    · exact .inl ⟨h, by rw [e]⟩
    · exact .inr (.inl ⟨h, by rw [e]⟩)
  cases i
  case nop => exact .inl ⟨ruleOf_nop _, rfl⟩
  case sta a => exact .inr (.inr (.inl ⟨a, rfl⟩))
  case lda a => exact .inr (.inr (.inr (.inl ⟨a, rfl⟩)))
  case movBA => exact .inr (.inr (.inr (.inr (.inl rfl))))
  case addB => exact .inr (.inr (.inr (.inr (.inr (.inl rfl)))))
  case hlt => exact .inr (.inr (.inr (.inr (.inr (.inr rfl)))))
  case nop08 => exact cand 0x08#8 (by decide) (by decide)
  case nop10 => exact cand 0x10#8 (by decide) (by decide)
  case nop18 => exact cand 0x18#8 (by decide) (by decide)
  case nop20 => exact cand 0x20#8 (by decide) (by decide)
  case nop28 => exact cand 0x28#8 (by decide) (by decide)
  case nop30 => exact cand 0x30#8 (by decide) (by decide)
  case nop38 => exact cand 0x38#8 (by decide) (by decide)
  all_goals exact .inr (.inl ⟨ruleOf_of_unimplemented (by decide) _, rfl⟩)

/-- What LDA can do, by what its data read answers (42_data_transfer.md R141, R142). -/
theorem execLda_cases (a : Word) (s : State) :
    (readWaits s a = true ∧ execLda a s = .next s) ∨
    (∃ f t, busRead s a = .raised f t ∧ execLda a s = .next (takeFault f t)) ∨
    (∃ v t, busRead s a = .ok v t ∧ execLda a s = .next (completeStep 0x3A#8 (setReg .a v) t)) := by
  cases h : busRead s a with
  | hold => exact .inl ⟨busRead_hold.mp h, by simp [execLda, h]⟩
  | raised f t => exact .inr (.inl ⟨f, t, rfl, by simp [execLda, h]⟩)
  | ok v t => exact .inr (.inr ⟨v, t, rfl, by simp [execLda, h]⟩)

/-- No instruction stops the model: each answers a next state. -/
theorem exec_answers_next (i : Instr) (s : State) : ∃ t, exec i s = .next t := by
  rcases exec_cases i s with ⟨_, h⟩ | ⟨_, h⟩ | ⟨a, rfl⟩ | ⟨a, rfl⟩ | rfl | rfl | rfl
  · exact ⟨_, h⟩
  · exact ⟨_, h⟩
  · exact ⟨_, rfl⟩
  · rcases execLda_cases a s with ⟨_, h⟩ | ⟨_, _, _, h⟩ | ⟨_, _, _, h⟩ <;> exact ⟨_, h⟩
  · exact ⟨_, rfl⟩
  · exact ⟨_, rfl⟩
  · exact ⟨_, rfl⟩

end Sys2Proof.Machine
end

