-- ==== Sys2Proof/Laws/Fetch.lean ====
section
/-! SUPPORT. Fetching an instruction, read by read: one lemma for each way the opcode and operand reads can answer
(40_fetch_decode_execute.md R103 to R108). -/

namespace Sys2Proof.Machine

theorem word_add_one_one (p : Word) : p + 1 + 1 = p + 2 := by
  rw [BitVec.add_assoc]; rfl

theorem word_add_one_ne (p : Word) : p + 1 ≠ p := by
  intro h; have := congrArg BitVec.toNat h; simp at this; omega

theorem word_add_two_ne (p : Word) : p + 2 ≠ p := by
  intro h; have := congrArg BitVec.toNat h; simp at this; omega

theorem word_add_one_ne_two (p : Word) : p + 1 ≠ p + 2 := by
  intro h; have := congrArg BitVec.toNat h; simp at this; omega

theorem operandCount_zero_or_two (op : Byte) : operandCount op = 0 ∨ operandCount op = 2 := by
  have := operandCount_eq op
  split at this <;> simp [this]

theorem busRead_of_ne {s : State} {a : Word} (h : a ≠ s.cfg.inAddr) : busRead s a = .ok (readBuf s a) s := by
  simp only [busRead, if_neg h]

theorem busRead_inAddr_cons {s : State} {b : Byte} {rest : List Byte} (h : s.input.pending = b :: rest) :
    busRead s s.cfg.inAddr = .ok b { s with input := ⟨rest, s.input.closed⟩ } := by
  simp [busRead, inputRead, h]

/-- The opcode read gives an opcode without operand bytes: that is the whole fetch. -/
theorem fetchInstr_of_opcode {s t : State} {op : Byte} (h : busRead s s.pc = .ok op t) (hn : operandCount op = 0) :
    fetchInstr s = .ok (decodeOpcode op .none) t := by
  simp [fetchInstr, h, hn, readOperand, busReads, operandOfBytes]

/-- The opcode takes an address: low byte, then high byte. -/
theorem fetchInstr_of_address {s t u v : State} {op lo hi : Byte} (h : busRead s s.pc = .ok op t)
    (hn : operandCount op = 2) (hlo : busRead t (s.pc + 1) = .ok lo u) (hhi : busRead u (s.pc + 2) = .ok hi v) :
    fetchInstr s = .ok (decodeOpcode op (.addr16 (joinBytes hi lo))) v := by
  simp only [fetchInstr, h, hn, readOperand, busReads, hlo, word_add_one_one, hhi, operandOfBytes]

theorem fetchInstr_hold_opcode {s : State} (h : busRead s s.pc = .hold) : fetchInstr s = .hold := by
  simp [fetchInstr, h]

theorem fetchInstr_raised_opcode {s t : State} {f : FaultRecord} (h : busRead s s.pc = .raised f t) :
    fetchInstr s = .raised f t := by
  simp [fetchInstr, h]

theorem fetchInstr_hold_low {s t : State} {op : Byte} (h : busRead s s.pc = .ok op t) (hn : operandCount op = 2)
    (hlo : busRead t (s.pc + 1) = .hold) : fetchInstr s = .hold := by
  simp only [fetchInstr, h, hn, readOperand, busReads, hlo]

theorem fetchInstr_raised_low {s t u : State} {op : Byte} {f : FaultRecord} (h : busRead s s.pc = .ok op t)
    (hn : operandCount op = 2) (hlo : busRead t (s.pc + 1) = .raised f u) : fetchInstr s = .raised f u := by
  simp only [fetchInstr, h, hn, readOperand, busReads, hlo]

theorem fetchInstr_hold_high {s t u : State} {op lo : Byte} (h : busRead s s.pc = .ok op t)
    (hn : operandCount op = 2) (hlo : busRead t (s.pc + 1) = .ok lo u) (hhi : busRead u (s.pc + 2) = .hold) :
    fetchInstr s = .hold := by
  simp only [fetchInstr, h, hn, readOperand, busReads, hlo, word_add_one_one, hhi]

theorem fetchInstr_raised_high {s t u v : State} {op lo : Byte} {f : FaultRecord} (h : busRead s s.pc = .ok op t)
    (hn : operandCount op = 2) (hlo : busRead t (s.pc + 1) = .ok lo u) (hhi : busRead u (s.pc + 2) = .raised f v) :
    fetchInstr s = .raised f v := by
  simp only [fetchInstr, h, hn, readOperand, busReads, hlo, word_add_one_one, hhi]

/-- What decoding three bytes gives: the operand is there exactly for an opcode that takes one. -/
theorem decode_three {op lo hi : Byte} {i : Instr} {rest : List Byte} (h : decode [op, lo, hi] = .instr i rest) :
    (operandCount op = 0 ∧ i = decodeOpcode op .none) ∨
    (operandCount op = 2 ∧ i = decodeOpcode op (.addr16 (joinBytes hi lo))) := by
  rcases operandCount_zero_or_two op with h0 | h2
  · left; simp [decode, h0, operandOfBytes] at h; exact ⟨h0, h.1.symm⟩
  · right; simp [decode, h2, operandOfBytes] at h; exact ⟨h2, h.1.symm⟩

end Sys2Proof.Machine
end

