-- ==== Sys2Proof/Laws/Inv.lean ====
section
/-! SUPPORT. Every operation that writes the buffer keeps its canonical form, and the state at reset has it. -/

namespace Sys2Proof.Machine

theorem writeBuf_wf {s : State} (h : s.mem.wf = true) (a : Word) (v : Byte) : (writeBuf a v s).mem.wf = true :=
  Memory.wf_write h a v

theorem busWrite_wf {s : State} (h : s.mem.wf = true) (a : Word) (v : Byte) : (busWrite a v s).mem.wf = true := by
  unfold busWrite
  split
  · exact h
  · exact writeBuf_wf h a v

theorem placeBytes_wf {s : State} (h : s.mem.wf = true) (n : Nat) (a : Word) (bs : List Byte) :
    (placeBytes n a bs s).mem.wf = true := by
  induction bs generalizing n a s with
  | nil => exact h
  | cons b bs ih =>
    unfold placeBytes
    refine ih ?_ (n - 1) (a + 1)
    split
    · split <;> exact h
    · exact writeBuf_wf h a b

theorem loadImage_wf {m : Memory} (h : m.wf = true) (image : List Byte) :
    (Memory.wf (loadImage image m)) = true :=
  Memory.wf_writeBytes h 0 image

theorem reset_mem_wf : State.reset.mem.wf = true := rfl

/-- The byte a Bus write puts in the buffer is read back, and no other byte changes (20_memory.md R55, R56, R68). -/
theorem readBuf_writeBuf {s : State} (h : s.mem.wf = true) (a b : Word) (v : Byte) :
    readBuf (writeBuf a v s) b = if b = a then v else readBuf s b := by
  by_cases hb : b = a
  · subst hb
    rw [if_pos rfl]
    exact memRead_memWrite_same h _ _
  · rw [if_neg hb]
    exact memRead_memWrite_other h (fun e => hb (BitVec.eq_of_toNat_eq e)) v

end Sys2Proof.Machine
end

