-- ==== Sys2Proof/Laws/PerInstr.lean ====
section
/-! SUPPORT. The per-instruction family Encoding: the encoding of each instruction is its opcode and as many operand bytes
as the decoder takes for that opcode, no more than the longest instruction (30_encoding.md R80 to R83). -/

namespace Sys2Proof.Laws.Encoding

def Statement (i : Instr) : Prop :=
  i.wellFormed = true ∧ (encode i).length = 1 + operandCount (opcodeOf i) ∧ (encode i).length ≤ longestInstr

theorem nop : Statement .nop := ⟨rfl, rfl, by decide⟩
theorem lxiBD16 : Statement .lxiBD16 := ⟨rfl, rfl, by decide⟩
theorem staxB : Statement .staxB := ⟨rfl, rfl, by decide⟩
theorem inxB : Statement .inxB := ⟨rfl, rfl, by decide⟩
theorem inrB : Statement .inrB := ⟨rfl, rfl, by decide⟩
theorem dcrB : Statement .dcrB := ⟨rfl, rfl, by decide⟩
theorem mviBD8 : Statement .mviBD8 := ⟨rfl, rfl, by decide⟩
theorem rlc : Statement .rlc := ⟨rfl, rfl, by decide⟩
theorem nop08 : Statement .nop08 := ⟨rfl, rfl, by decide⟩
theorem dadB : Statement .dadB := ⟨rfl, rfl, by decide⟩
theorem ldaxB : Statement .ldaxB := ⟨rfl, rfl, by decide⟩
theorem dcxB : Statement .dcxB := ⟨rfl, rfl, by decide⟩
theorem inrC : Statement .inrC := ⟨rfl, rfl, by decide⟩
theorem dcrC : Statement .dcrC := ⟨rfl, rfl, by decide⟩
theorem mviCD8 : Statement .mviCD8 := ⟨rfl, rfl, by decide⟩
theorem rrc : Statement .rrc := ⟨rfl, rfl, by decide⟩
theorem nop10 : Statement .nop10 := ⟨rfl, rfl, by decide⟩
theorem lxiDD16 : Statement .lxiDD16 := ⟨rfl, rfl, by decide⟩
theorem staxD : Statement .staxD := ⟨rfl, rfl, by decide⟩
theorem inxD : Statement .inxD := ⟨rfl, rfl, by decide⟩
theorem inrD : Statement .inrD := ⟨rfl, rfl, by decide⟩
theorem dcrD : Statement .dcrD := ⟨rfl, rfl, by decide⟩
theorem mviDD8 : Statement .mviDD8 := ⟨rfl, rfl, by decide⟩
theorem ral : Statement .ral := ⟨rfl, rfl, by decide⟩
theorem nop18 : Statement .nop18 := ⟨rfl, rfl, by decide⟩
theorem dadD : Statement .dadD := ⟨rfl, rfl, by decide⟩
theorem ldaxD : Statement .ldaxD := ⟨rfl, rfl, by decide⟩
theorem dcxD : Statement .dcxD := ⟨rfl, rfl, by decide⟩
theorem inrE : Statement .inrE := ⟨rfl, rfl, by decide⟩
theorem dcrE : Statement .dcrE := ⟨rfl, rfl, by decide⟩
theorem mviED8 : Statement .mviED8 := ⟨rfl, rfl, by decide⟩
theorem rar : Statement .rar := ⟨rfl, rfl, by decide⟩
theorem nop20 : Statement .nop20 := ⟨rfl, rfl, by decide⟩
theorem lxiHD16 : Statement .lxiHD16 := ⟨rfl, rfl, by decide⟩
theorem shldA16 : Statement .shldA16 := ⟨rfl, rfl, by decide⟩
theorem inxH : Statement .inxH := ⟨rfl, rfl, by decide⟩
theorem inrH : Statement .inrH := ⟨rfl, rfl, by decide⟩
theorem dcrH : Statement .dcrH := ⟨rfl, rfl, by decide⟩
theorem mviHD8 : Statement .mviHD8 := ⟨rfl, rfl, by decide⟩
theorem daa : Statement .daa := ⟨rfl, rfl, by decide⟩
theorem nop28 : Statement .nop28 := ⟨rfl, rfl, by decide⟩
theorem dadH : Statement .dadH := ⟨rfl, rfl, by decide⟩
theorem lhldA16 : Statement .lhldA16 := ⟨rfl, rfl, by decide⟩
theorem dcxH : Statement .dcxH := ⟨rfl, rfl, by decide⟩
theorem inrL : Statement .inrL := ⟨rfl, rfl, by decide⟩
theorem dcrL : Statement .dcrL := ⟨rfl, rfl, by decide⟩
theorem mviLD8 : Statement .mviLD8 := ⟨rfl, rfl, by decide⟩
theorem cma : Statement .cma := ⟨rfl, rfl, by decide⟩
theorem nop30 : Statement .nop30 := ⟨rfl, rfl, by decide⟩
theorem lxiSpD16 : Statement .lxiSpD16 := ⟨rfl, rfl, by decide⟩
theorem sta (a : Word) : Statement (.sta a) := ⟨rfl, rfl, Nat.le_refl 3⟩
theorem inxSp : Statement .inxSp := ⟨rfl, rfl, by decide⟩
theorem inrM : Statement .inrM := ⟨rfl, rfl, by decide⟩
theorem dcrM : Statement .dcrM := ⟨rfl, rfl, by decide⟩
theorem mviMD8 : Statement .mviMD8 := ⟨rfl, rfl, by decide⟩
theorem stc : Statement .stc := ⟨rfl, rfl, by decide⟩
theorem nop38 : Statement .nop38 := ⟨rfl, rfl, by decide⟩
theorem dadSp : Statement .dadSp := ⟨rfl, rfl, by decide⟩
theorem lda (a : Word) : Statement (.lda a) := ⟨rfl, rfl, Nat.le_refl 3⟩
theorem dcxSp : Statement .dcxSp := ⟨rfl, rfl, by decide⟩
theorem inrA : Statement .inrA := ⟨rfl, rfl, by decide⟩
theorem dcrA : Statement .dcrA := ⟨rfl, rfl, by decide⟩
theorem mviAD8 : Statement .mviAD8 := ⟨rfl, rfl, by decide⟩
theorem cmc : Statement .cmc := ⟨rfl, rfl, by decide⟩
theorem movBB : Statement .movBB := ⟨rfl, rfl, by decide⟩
theorem movBC : Statement .movBC := ⟨rfl, rfl, by decide⟩
theorem movBD : Statement .movBD := ⟨rfl, rfl, by decide⟩
theorem movBE : Statement .movBE := ⟨rfl, rfl, by decide⟩
theorem movBH : Statement .movBH := ⟨rfl, rfl, by decide⟩
theorem movBL : Statement .movBL := ⟨rfl, rfl, by decide⟩
theorem movBM : Statement .movBM := ⟨rfl, rfl, by decide⟩
theorem movBA : Statement .movBA := ⟨rfl, rfl, by decide⟩
theorem movCB : Statement .movCB := ⟨rfl, rfl, by decide⟩
theorem movCC : Statement .movCC := ⟨rfl, rfl, by decide⟩
theorem movCD : Statement .movCD := ⟨rfl, rfl, by decide⟩
theorem movCE : Statement .movCE := ⟨rfl, rfl, by decide⟩
theorem movCH : Statement .movCH := ⟨rfl, rfl, by decide⟩
theorem movCL : Statement .movCL := ⟨rfl, rfl, by decide⟩
theorem movCM : Statement .movCM := ⟨rfl, rfl, by decide⟩
theorem movCA : Statement .movCA := ⟨rfl, rfl, by decide⟩
theorem movDB : Statement .movDB := ⟨rfl, rfl, by decide⟩
theorem movDC : Statement .movDC := ⟨rfl, rfl, by decide⟩
theorem movDD : Statement .movDD := ⟨rfl, rfl, by decide⟩
theorem movDE : Statement .movDE := ⟨rfl, rfl, by decide⟩
theorem movDH : Statement .movDH := ⟨rfl, rfl, by decide⟩
theorem movDL : Statement .movDL := ⟨rfl, rfl, by decide⟩
theorem movDM : Statement .movDM := ⟨rfl, rfl, by decide⟩
theorem movDA : Statement .movDA := ⟨rfl, rfl, by decide⟩
theorem movEB : Statement .movEB := ⟨rfl, rfl, by decide⟩
theorem movEC : Statement .movEC := ⟨rfl, rfl, by decide⟩
theorem movED : Statement .movED := ⟨rfl, rfl, by decide⟩
theorem movEE : Statement .movEE := ⟨rfl, rfl, by decide⟩
theorem movEH : Statement .movEH := ⟨rfl, rfl, by decide⟩
theorem movEL : Statement .movEL := ⟨rfl, rfl, by decide⟩
theorem movEM : Statement .movEM := ⟨rfl, rfl, by decide⟩
theorem movEA : Statement .movEA := ⟨rfl, rfl, by decide⟩
theorem movHB : Statement .movHB := ⟨rfl, rfl, by decide⟩
theorem movHC : Statement .movHC := ⟨rfl, rfl, by decide⟩
theorem movHD : Statement .movHD := ⟨rfl, rfl, by decide⟩
theorem movHE : Statement .movHE := ⟨rfl, rfl, by decide⟩
theorem movHH : Statement .movHH := ⟨rfl, rfl, by decide⟩
theorem movHL : Statement .movHL := ⟨rfl, rfl, by decide⟩
theorem movHM : Statement .movHM := ⟨rfl, rfl, by decide⟩
theorem movHA : Statement .movHA := ⟨rfl, rfl, by decide⟩
theorem movLB : Statement .movLB := ⟨rfl, rfl, by decide⟩
theorem movLC : Statement .movLC := ⟨rfl, rfl, by decide⟩
theorem movLD : Statement .movLD := ⟨rfl, rfl, by decide⟩
theorem movLE : Statement .movLE := ⟨rfl, rfl, by decide⟩
theorem movLH : Statement .movLH := ⟨rfl, rfl, by decide⟩
theorem movLL : Statement .movLL := ⟨rfl, rfl, by decide⟩
theorem movLM : Statement .movLM := ⟨rfl, rfl, by decide⟩
theorem movLA : Statement .movLA := ⟨rfl, rfl, by decide⟩
theorem movMB : Statement .movMB := ⟨rfl, rfl, by decide⟩
theorem movMC : Statement .movMC := ⟨rfl, rfl, by decide⟩
theorem movMD : Statement .movMD := ⟨rfl, rfl, by decide⟩
theorem movME : Statement .movME := ⟨rfl, rfl, by decide⟩
theorem movMH : Statement .movMH := ⟨rfl, rfl, by decide⟩
theorem movML : Statement .movML := ⟨rfl, rfl, by decide⟩
theorem hlt : Statement .hlt := ⟨rfl, rfl, by decide⟩
theorem movMA : Statement .movMA := ⟨rfl, rfl, by decide⟩
theorem movAB : Statement .movAB := ⟨rfl, rfl, by decide⟩
theorem movAC : Statement .movAC := ⟨rfl, rfl, by decide⟩
theorem movAD : Statement .movAD := ⟨rfl, rfl, by decide⟩
theorem movAE : Statement .movAE := ⟨rfl, rfl, by decide⟩
theorem movAH : Statement .movAH := ⟨rfl, rfl, by decide⟩
theorem movAL : Statement .movAL := ⟨rfl, rfl, by decide⟩
theorem movAM : Statement .movAM := ⟨rfl, rfl, by decide⟩
theorem movAA : Statement .movAA := ⟨rfl, rfl, by decide⟩
theorem addB : Statement .addB := ⟨rfl, rfl, by decide⟩
theorem addC : Statement .addC := ⟨rfl, rfl, by decide⟩
theorem addD : Statement .addD := ⟨rfl, rfl, by decide⟩
theorem addE : Statement .addE := ⟨rfl, rfl, by decide⟩
theorem addH : Statement .addH := ⟨rfl, rfl, by decide⟩
theorem addL : Statement .addL := ⟨rfl, rfl, by decide⟩
theorem addM : Statement .addM := ⟨rfl, rfl, by decide⟩
theorem addA : Statement .addA := ⟨rfl, rfl, by decide⟩
theorem adcB : Statement .adcB := ⟨rfl, rfl, by decide⟩
theorem adcC : Statement .adcC := ⟨rfl, rfl, by decide⟩
theorem adcD : Statement .adcD := ⟨rfl, rfl, by decide⟩
theorem adcE : Statement .adcE := ⟨rfl, rfl, by decide⟩
theorem adcH : Statement .adcH := ⟨rfl, rfl, by decide⟩
theorem adcL : Statement .adcL := ⟨rfl, rfl, by decide⟩
theorem adcM : Statement .adcM := ⟨rfl, rfl, by decide⟩
theorem adcA : Statement .adcA := ⟨rfl, rfl, by decide⟩
theorem subB : Statement .subB := ⟨rfl, rfl, by decide⟩
theorem subC : Statement .subC := ⟨rfl, rfl, by decide⟩
theorem subD : Statement .subD := ⟨rfl, rfl, by decide⟩
theorem subE : Statement .subE := ⟨rfl, rfl, by decide⟩
theorem subH : Statement .subH := ⟨rfl, rfl, by decide⟩
theorem subL : Statement .subL := ⟨rfl, rfl, by decide⟩
theorem subM : Statement .subM := ⟨rfl, rfl, by decide⟩
theorem subA : Statement .subA := ⟨rfl, rfl, by decide⟩
theorem sbbB : Statement .sbbB := ⟨rfl, rfl, by decide⟩
theorem sbbC : Statement .sbbC := ⟨rfl, rfl, by decide⟩
theorem sbbD : Statement .sbbD := ⟨rfl, rfl, by decide⟩
theorem sbbE : Statement .sbbE := ⟨rfl, rfl, by decide⟩
theorem sbbH : Statement .sbbH := ⟨rfl, rfl, by decide⟩
theorem sbbL : Statement .sbbL := ⟨rfl, rfl, by decide⟩
theorem sbbM : Statement .sbbM := ⟨rfl, rfl, by decide⟩
theorem sbbA : Statement .sbbA := ⟨rfl, rfl, by decide⟩
theorem anaB : Statement .anaB := ⟨rfl, rfl, by decide⟩
theorem anaC : Statement .anaC := ⟨rfl, rfl, by decide⟩
theorem anaD : Statement .anaD := ⟨rfl, rfl, by decide⟩
theorem anaE : Statement .anaE := ⟨rfl, rfl, by decide⟩
theorem anaH : Statement .anaH := ⟨rfl, rfl, by decide⟩
theorem anaL : Statement .anaL := ⟨rfl, rfl, by decide⟩
theorem anaM : Statement .anaM := ⟨rfl, rfl, by decide⟩
theorem anaA : Statement .anaA := ⟨rfl, rfl, by decide⟩
theorem xraB : Statement .xraB := ⟨rfl, rfl, by decide⟩
theorem xraC : Statement .xraC := ⟨rfl, rfl, by decide⟩
theorem xraD : Statement .xraD := ⟨rfl, rfl, by decide⟩
theorem xraE : Statement .xraE := ⟨rfl, rfl, by decide⟩
theorem xraH : Statement .xraH := ⟨rfl, rfl, by decide⟩
theorem xraL : Statement .xraL := ⟨rfl, rfl, by decide⟩
theorem xraM : Statement .xraM := ⟨rfl, rfl, by decide⟩
theorem xraA : Statement .xraA := ⟨rfl, rfl, by decide⟩
theorem oraB : Statement .oraB := ⟨rfl, rfl, by decide⟩
theorem oraC : Statement .oraC := ⟨rfl, rfl, by decide⟩
theorem oraD : Statement .oraD := ⟨rfl, rfl, by decide⟩
theorem oraE : Statement .oraE := ⟨rfl, rfl, by decide⟩
theorem oraH : Statement .oraH := ⟨rfl, rfl, by decide⟩
theorem oraL : Statement .oraL := ⟨rfl, rfl, by decide⟩
theorem oraM : Statement .oraM := ⟨rfl, rfl, by decide⟩
theorem oraA : Statement .oraA := ⟨rfl, rfl, by decide⟩
theorem cmpB : Statement .cmpB := ⟨rfl, rfl, by decide⟩
theorem cmpC : Statement .cmpC := ⟨rfl, rfl, by decide⟩
theorem cmpD : Statement .cmpD := ⟨rfl, rfl, by decide⟩
theorem cmpE : Statement .cmpE := ⟨rfl, rfl, by decide⟩
theorem cmpH : Statement .cmpH := ⟨rfl, rfl, by decide⟩
theorem cmpL : Statement .cmpL := ⟨rfl, rfl, by decide⟩
theorem cmpM : Statement .cmpM := ⟨rfl, rfl, by decide⟩
theorem cmpA : Statement .cmpA := ⟨rfl, rfl, by decide⟩
theorem rnz : Statement .rnz := ⟨rfl, rfl, by decide⟩
theorem popB : Statement .popB := ⟨rfl, rfl, by decide⟩
theorem jnzA16 : Statement .jnzA16 := ⟨rfl, rfl, by decide⟩
theorem jmpA16 : Statement .jmpA16 := ⟨rfl, rfl, by decide⟩
theorem cnzA16 : Statement .cnzA16 := ⟨rfl, rfl, by decide⟩
theorem pushB : Statement .pushB := ⟨rfl, rfl, by decide⟩
theorem adiD8 : Statement .adiD8 := ⟨rfl, rfl, by decide⟩
theorem rst0 : Statement .rst0 := ⟨rfl, rfl, by decide⟩
theorem rz : Statement .rz := ⟨rfl, rfl, by decide⟩
theorem ret : Statement .ret := ⟨rfl, rfl, by decide⟩
theorem jzA16 : Statement .jzA16 := ⟨rfl, rfl, by decide⟩
theorem jmpA16XCB : Statement .jmpA16XCB := ⟨rfl, rfl, by decide⟩
theorem czA16 : Statement .czA16 := ⟨rfl, rfl, by decide⟩
theorem callA16 : Statement .callA16 := ⟨rfl, rfl, by decide⟩
theorem aciD8 : Statement .aciD8 := ⟨rfl, rfl, by decide⟩
theorem rst1 : Statement .rst1 := ⟨rfl, rfl, by decide⟩
theorem rnc : Statement .rnc := ⟨rfl, rfl, by decide⟩
theorem popD : Statement .popD := ⟨rfl, rfl, by decide⟩
theorem jncA16 : Statement .jncA16 := ⟨rfl, rfl, by decide⟩
theorem outD8 : Statement .outD8 := ⟨rfl, rfl, by decide⟩
theorem cncA16 : Statement .cncA16 := ⟨rfl, rfl, by decide⟩
theorem pushD : Statement .pushD := ⟨rfl, rfl, by decide⟩
theorem suiD8 : Statement .suiD8 := ⟨rfl, rfl, by decide⟩
theorem rst2 : Statement .rst2 := ⟨rfl, rfl, by decide⟩
theorem rc : Statement .rc := ⟨rfl, rfl, by decide⟩
theorem retXD9 : Statement .retXD9 := ⟨rfl, rfl, by decide⟩
theorem jcA16 : Statement .jcA16 := ⟨rfl, rfl, by decide⟩
theorem inD8 : Statement .inD8 := ⟨rfl, rfl, by decide⟩
theorem ccA16 : Statement .ccA16 := ⟨rfl, rfl, by decide⟩
theorem callA16XDD : Statement .callA16XDD := ⟨rfl, rfl, by decide⟩
theorem sbiD8 : Statement .sbiD8 := ⟨rfl, rfl, by decide⟩
theorem rst3 : Statement .rst3 := ⟨rfl, rfl, by decide⟩
theorem rpo : Statement .rpo := ⟨rfl, rfl, by decide⟩
theorem popH : Statement .popH := ⟨rfl, rfl, by decide⟩
theorem jpoA16 : Statement .jpoA16 := ⟨rfl, rfl, by decide⟩
theorem xthl : Statement .xthl := ⟨rfl, rfl, by decide⟩
theorem cpoA16 : Statement .cpoA16 := ⟨rfl, rfl, by decide⟩
theorem pushH : Statement .pushH := ⟨rfl, rfl, by decide⟩
theorem aniD8 : Statement .aniD8 := ⟨rfl, rfl, by decide⟩
theorem rst4 : Statement .rst4 := ⟨rfl, rfl, by decide⟩
theorem rpe : Statement .rpe := ⟨rfl, rfl, by decide⟩
theorem pchl : Statement .pchl := ⟨rfl, rfl, by decide⟩
theorem jpeA16 : Statement .jpeA16 := ⟨rfl, rfl, by decide⟩
theorem xchg : Statement .xchg := ⟨rfl, rfl, by decide⟩
theorem cpeA16 : Statement .cpeA16 := ⟨rfl, rfl, by decide⟩
theorem callA16XED : Statement .callA16XED := ⟨rfl, rfl, by decide⟩
theorem xriD8 : Statement .xriD8 := ⟨rfl, rfl, by decide⟩
theorem rst5 : Statement .rst5 := ⟨rfl, rfl, by decide⟩
theorem rp : Statement .rp := ⟨rfl, rfl, by decide⟩
theorem popPsw : Statement .popPsw := ⟨rfl, rfl, by decide⟩
theorem jpA16 : Statement .jpA16 := ⟨rfl, rfl, by decide⟩
theorem di : Statement .di := ⟨rfl, rfl, by decide⟩
theorem cpA16 : Statement .cpA16 := ⟨rfl, rfl, by decide⟩
theorem pushPsw : Statement .pushPsw := ⟨rfl, rfl, by decide⟩
theorem oriD8 : Statement .oriD8 := ⟨rfl, rfl, by decide⟩
theorem rst6 : Statement .rst6 := ⟨rfl, rfl, by decide⟩
theorem rm : Statement .rm := ⟨rfl, rfl, by decide⟩
theorem sphl : Statement .sphl := ⟨rfl, rfl, by decide⟩
theorem jmA16 : Statement .jmA16 := ⟨rfl, rfl, by decide⟩
theorem ei : Statement .ei := ⟨rfl, rfl, by decide⟩
theorem cmA16 : Statement .cmA16 := ⟨rfl, rfl, by decide⟩
theorem callA16XFD : Statement .callA16XFD := ⟨rfl, rfl, by decide⟩
theorem cpiD8 : Statement .cpiD8 := ⟨rfl, rfl, by decide⟩
theorem rst7 : Statement .rst7 := ⟨rfl, rfl, by decide⟩

end Sys2Proof.Laws.Encoding
end

