-- ==== Sys2Proof/Laws/Step.lean ====
section
/-! SUPPORT. What a step can do, said once (40_fetch_decode_execute.md R101, R117, R119). -/

namespace Sys2Proof.Machine

theorem step_halted {s : State} (h : s.status = .halted) : step s = .next s := by
  simp [step, runStep, h]

theorem step_faulted {s : State} (h : s.status = .faulted) : step s = .fault (.stepNotEnabled s.fault) := by
  simp [step, runStep, h]

/-- A running step holds, takes a fault of its fetch, or executes the instruction it fetched. -/
theorem step_running_cases {s : State} (h : s.status = .running) :
    (stepWaits s = true ∧ step s = .next s) ∨
    (stepWaits s = false ∧ ∃ f u, fetchInstr s = .raised f u ∧ step s = .next (takeFault f u)) ∨
    (stepWaits s = false ∧ ∃ i u, fetchInstr s = .ok i u ∧ execWaits i u = false ∧ step s = exec i u) := by
  cases hf : fetchInstr s with
  | hold => exact .inl ⟨by simp [stepWaits, hf], by simp [step, runStep, h, hf]⟩
  | raised f u => exact .inr (.inl ⟨by simp [stepWaits, hf], f, u, rfl, by simp [step, runStep, h, hf]⟩)
  | ok i u =>
    cases hw : execWaits i u with
    | true => exact .inl ⟨by simp [stepWaits, hf, hw], by simp [step, runStep, h, hf, hw]⟩
    | false => exact .inr (.inr ⟨by simp [stepWaits, hf, hw], i, u, rfl, hw, by simp [step, runStep, h, hf, hw]⟩)

/-- Everything a step to a next state can be. -/
theorem step_next_cases {s t : State} (h : step s = .next t) :
    t = s ∨
    (s.status = .running ∧ ∃ f u, fetchInstr s = .raised f u ∧ t = takeFault f u) ∨
    (s.status = .running ∧ ∃ i u, fetchInstr s = .ok i u ∧ execWaits i u = false ∧ exec i u = .next t) := by
  cases hs : s.status with
  | halted => rw [step_halted hs] at h; cases h; exact .inl rfl
  | faulted => rw [step_faulted hs] at h; cases h
  | running =>
    rcases step_running_cases hs with ⟨_, e⟩ | ⟨_, f, u, hf, e⟩ | ⟨_, i, u, hf, hw, e⟩ <;> rw [e] at h
    · cases h; exact .inl rfl
    · cases h; exact .inr (.inl ⟨rfl, f, u, hf, rfl⟩)
    · exact .inr (.inr ⟨rfl, i, u, hf, hw, h⟩)

/-- A step stops only where none is enabled: in a Faulted state (R119). -/
theorem step_answers_next {s : State} (h : s.status ≠ .faulted) : ∃ t, step s = .next t := by
  cases hs : s.status with
  | halted => exact ⟨s, step_halted hs⟩
  | faulted => exact absurd hs h
  | running =>
    rcases step_running_cases hs with ⟨_, e⟩ | ⟨_, f, u, _, e⟩ | ⟨_, i, u, _, _, e⟩
    · exact ⟨_, e⟩
    · exact ⟨_, e⟩
    · rw [e]; exact exec_answers_next i u

end Sys2Proof.Machine
end

