-- ==== Sys2Proof/Tests/Slice0.lean ====
section
/-! SUPPORT. The model's own tests. Every expected value is from spec/: the vectors of 95_test_vectors.md (V.., W..), the
encodings of 30_encoding.md R89 and R95, the constraints of 00_scope.md R11. After them, for every statement that has
hypotheses, a named state and operands that meet them. -/

namespace Sys2Proof.Tests

open Sys2Proof Sys2Proof.Machine

/-! ### Small states -/

/-- The vectors' start state (95_test_vectors.md, Conventions) with a pc, a buffer and an input stream. -/
def startAt (pc : Word) (buf : Memory) (input : InputStream) : State :=
  { State.construct defaultConfig buf input with pc := pc }

/-- The input stream the vectors start from: nothing pending, closed. -/
def noInput : InputStream := ⟨[], true⟩

/-- A state with A and B given. -/
def withAB (a b : Byte) (s : State) : State := { s with regs := { s.regs with a := a, b := b } }

/-- A state with the policy for AC and P given. -/
def withPolicy (p : FlagPolicy) (s : State) : State := { s with cfg := { s.cfg with flagPolicy := p } }

/-- The state after one step, where there is one. -/
def after (s : State) : Option State :=
  match step s with
  | .next t => some t
  | .fault _ => none
  | .refused _ => none

/-- One step of ADD B from the given operands: A, then S, Z, C. -/
def addBResult (a b : Byte) : Option (Byte × Bool × Bool × Bool) :=
  (after (withAB a b (startAt 0 [(0, 0x80)] noInput))).map fun t => (t.regs.a, t.flags.s, t.flags.z, t.flags.c)

/-! ### The parameters' constraints (00_scope.md R11), one ill-formed term for each check -/

set_option maxRecDepth 4000 in
theorem test_wf_default_admissible : defaultConfig.admissible = true := by decide

theorem test_wf_equal_devices_refused :
    ({ defaultConfig with outAddr := 0xFFFE } : Config).devicesDistinct = false := by decide

theorem test_wf_three_opcodes_refused :
    ({ defaultConfig with nopAliases := [0x00, 0x08, 0x10] } : Config).aliasesFour = false := by decide

theorem test_wf_repeated_opcode_refused :
    ({ defaultConfig with nopAliases := [0x00, 0x08, 0x08, 0x10] } : Config).aliasesFour = false := by decide

theorem test_wf_missing_zero_refused :
    ({ defaultConfig with nopAliases := [0x08, 0x10, 0x18, 0x20] } : Config).aliasesHoldZero = false := by decide

theorem test_wf_foreign_opcode_refused :
    ({ defaultConfig with nopAliases := [0x00, 0x08, 0x10, 0x40] } : Config).aliasesAmongCandidates = false := by decide

theorem test_wf_short_costs_refused :
    ({ defaultConfig with cycleCost := [4, 10, 7] } : Config).costsEveryOpcode = false := by decide

theorem test_wf_refused_config_not_admissible :
    ({ defaultConfig with outAddr := 0xFFFE } : Config).admissible = false := by decide

/-- An instruction outside the execution rules of the parameters is not admitted (30_encoding.md R90, R91). -/
theorem test_wf_not_admitted :
    Instr.nop38.admitted defaultConfig = false ∧ Instr.nop18.admitted defaultConfig = true ∧
    Instr.jmpA16.admitted defaultConfig = false := by decide

/-- The canonical form of the buffer refuses falling or equal addresses, an address outside the space, a 0x00 cell. -/
theorem test_wf_memory :
    Memory.wf [(3, 0x01), (2, 0x01)] = false ∧ Memory.wf [(3, 0x01), (3, 0x02)] = false ∧
    Memory.wf [(65536, 0x01)] = false ∧ Memory.wf [(3, 0x00)] = false ∧
    Memory.wf [(0, 0x01), (65535, 0xFF)] = true := by decide

/-! ### Decoding: the words of 30_encoding.md R89 and R95, written bit by bit -/

/-- NOP 0x00; NOP 0x38, the last candidate (R90). -/
theorem test_decode_nop :
    decode [0b00000000#8] = .instr .nop [] ∧ decode [0b00111000#8] = .instr .nop38 [] := by decide

/-- `3A lo hi` is LDA hi*256+lo (R84, R89; V9). -/
theorem test_decode_lda :
    decode [0b00111010#8, 0b00110100#8, 0b00010010#8] = .instr (.lda 0x1234#16) [] := by decide

/-- `32 lo hi` is STA hi*256+lo (R84, R89; V17). -/
theorem test_decode_sta :
    decode [0b00110010#8, 0b00000000#8, 0b00100000#8] = .instr (.sta 0x2000#16) [] := by decide

/-- MOV B,A 0x47 (V21). -/
theorem test_decode_movBA : decode [0b01000111#8] = .instr .movBA [] := by decide

/-- ADD B 0x80 (V23). -/
theorem test_decode_addB : decode [0b10000000#8] = .instr .addB [] := by decide

/-- HLT 0x76 (V25). -/
theorem test_decode_hlt : decode [0b01110110#8] = .instr .hlt [] := by decide

/-- JMP 0xC3, ADD C 0x81, IN 0xDB (V27, V28, V30); the second spelling of JMP at 0xCB (R93). -/
theorem test_decode_unimplemented :
    decode [0b11000011#8] = .instr .jmpA16 [] ∧ decode [0b10000001#8] = .instr .addC [] ∧
    decode [0b11011011#8] = .instr .inD8 [] ∧ decode [0b11001011#8] = .instr .jmpA16XCB [] := by decide

/-- No byte, and an operand cut short, are refused by name. -/
theorem test_decode_rejects :
    decode [] = .rejected .noOpcode ∧ decode [0x3A#8] = .rejected .operandMissing ∧
    decode [0x32#8, 0x00#8] = .rejected .operandMissing := by decide

/-- Bits numbered as the opcode table numbers them: the first byte is bits 7..0, and bits it does not give are 0. -/
theorem test_decode_table_word :
    decodeTableWord 24 0x12343A = some (.lda 0x1234#16) ∧ decodeTableWord 8 0x32 = some (.sta 0x0000#16) ∧
    decodeTableWord 8 0x47 = some .movBA ∧ decodeTableWord 24 0x0100C3 = some .jmpA16 := by decide

/-- The bytes the encoder lays out (R84). -/
theorem test_encode_little_endian :
    encode (.lda 0x1234#16) = [0x3A#8, 0x34#8, 0x12#8] ∧ encode (.sta 0xFFFE#16) = [0x32#8, 0xFE#8, 0xFF#8] := by decide

/-- The default cycle costs of the vectors' conventions (R92). -/
theorem test_cycle_costs :
    [0x00#8, 0x18#8, 0x3A#8, 0x32#8, 0x47#8, 0x80#8, 0x76#8].map (cyclesOfOpcode defaultConfig) =
      [4, 4, 13, 13, 5, 4, 7] := by decide

/-! ### One step of each instruction (95_test_vectors.md) -/

/-- V6: NOP at 0xFFFF, which is `OUT_ADDR`: the fetch reads the buffer and the pc wraps. -/
theorem test_V6_nop_wraps :
    (after (startAt 0xFFFF [] noInput)).map (fun t => (t.pc, t.cycles, t.output)) = some (0x0000, 4, []) := by decide

/-- V7: the opcode fetched at `IN_ADDR` comes from the input stream. -/
theorem test_V7_nop_from_input :
    (after (startAt 0xFFFE [] ⟨[0x00], true⟩)).map (fun t => (t.pc, t.cycles, t.input.pending)) =
      some (0xFFFF, 4, []) := by decide

/-- V2: 0x08 is in the default `NOP_ALIASES`. -/
theorem test_V2_candidate_inside :
    (after (startAt 0 [(0, 0x08)] noInput)).map (fun t => (t.pc, t.cycles, t.status)) =
      some (0x0001, 4, .running) := by decide

/-- V3: 0x38 is not. -/
theorem test_V3_candidate_outside :
    (after (startAt 0 [(0, 0x38)] noInput)).map (fun t => (t.pc, t.cycles, t.status, t.fault)) =
      some (0x0000, 0, .faulted, some (.unimplementedOpcode 0x38 0x0000)) := by decide

/-- V10: LDA from `IN_ADDR` takes the input byte, not the buffer's. -/
theorem test_V10_lda_input :
    (after (startAt 0 [(0, 0x3A), (1, 0xFE), (2, 0xFF), (0xFFFE, 0x55)] ⟨[0x99, 0x10], true⟩)).map
      (fun t => (t.regs.a, t.input.pending, t.pc, t.cycles)) = some (0x99, [0x10], 0x0003, 13) := by decide

/-- V14a: the low operand byte is read at `IN_ADDR`, and the pc wraps. -/
theorem test_V14a_lda_operand_from_input :
    (after (startAt 0xFFFD [(0x0042, 0x99), (0xFFFD, 0x3A)] ⟨[0x42], true⟩)).map
      (fun t => (t.regs.a, t.input.pending, t.pc, t.cycles)) = some (0x99, [], 0x0000, 13) := by decide

/-- V15: STA to `OUT_ADDR` appends to the output and leaves the buffer cell. -/
theorem test_V15_sta_output :
    (after (withAB 0x4E 0 (startAt 0 [(0, 0x32), (1, 0xFF), (2, 0xFF), (0xFFFF, 0x11)] noInput))).map
      (fun t => (t.output, readBuf t 0xFFFF, t.pc, t.cycles)) = some ([0x4E], 0x11, 0x0003, 13) := by decide

/-- V19: a store to the instruction's own operand byte, after the operand was read. -/
theorem test_V19_sta_own_operand :
    (after (withAB 0x4E 0 (startAt 0 [(0, 0x32), (1, 0x01)] noInput))).map
      (fun t => (t.mem, t.pc, t.cycles)) = some ([(0, 0x32), (1, 0x4E)], 0x0003, 13) := by decide

/-- V21: MOV B,A copies A and keeps it. -/
theorem test_V21_movBA :
    (after (withAB 0xA5 0x00 (startAt 0 [(0, 0x47)] noInput))).map (fun t => (t.regs.a, t.regs.b, t.pc, t.cycles)) =
      some (0xA5, 0xA5, 0x0001, 5) := by decide

/-- W3 to W5 and V23d to V23j: A, S, Z and C after ADD B. -/
theorem test_W3_W4_W5_addB :
    addBResult 0xFF 0x01 = some (0x00, false, true, true) ∧
    addBResult 0x01 0x01 = some (0x02, false, false, false) ∧
    addBResult 0x7F 0x01 = some (0x80, true, false, false) := by decide

/-- V24a: S, Z and C are written both ways, AC and P kept. -/
theorem test_V24a_addB_flags :
    (after { startAt 0 [(0, 0x80)] noInput with flags := ⟨true, false, true, true, true⟩ }).map (fun t => t.flags) =
      some ⟨false, true, true, true, false⟩ := by decide

/-- V23a to V23k, column AC' (policy `intel8080`). -/
theorem test_V23_aux_carry :
    ([(0xFF, 0x01), (0x01, 0x01), (0x7F, 0x01), (0x80, 0x80), (0xFF, 0xFF), (0xF0, 0x20), (0x0F, 0x01), (0x03, 0x04)]
      : List (Byte × Byte)).map (fun p => auxCarryOut p.1 p.2) =
      [true, false, true, false, true, false, true, false] := by decide

/-- V23a to V23k, column P' (policy `intel8080`). -/
theorem test_V23_parity :
    ([0x00, 0x02, 0x80, 0xFE, 0x12, 0x10, 0x07] : List Byte).map parityOf =
      [true, false, false, false, true, false, false] := by decide

/-- V26b: HLT at 0xFFFF. -/
theorem test_V26b_hlt_wraps :
    (after (startAt 0xFFFF [(0xFFFF, 0x76)] noInput)).map (fun t => (t.status, t.pc, t.cycles)) =
      some (.halted, 0x0000, 7) := by decide

set_option maxRecDepth 8000 in
/-- V26: stepping a Halted machine is Final and changes nothing. -/
theorem test_V26_final :
    after { startAt 0xFFFE [] ⟨[0x00], true⟩ with status := .halted } =
      some { startAt 0xFFFE [] ⟨[0x00], true⟩ with status := .halted } ∧
    stepKind { startAt 0xFFFE [] ⟨[0x00], true⟩ with status := .halted } = .final := by decide

/-- V28: ADD C, with no mutation. -/
theorem test_V28_unimplemented :
    (after { withAB 0x12 0 (startAt 0x0100 [(0x0100, 0x81)] noInput) with cycles := 50 }).map
      (fun t => (t.pc, t.regs.a, t.cycles, t.fault)) =
      some (0x0100, 0x12, 50, some (.unimplementedOpcode 0x81 0x0100)) := by decide

/-- V32: an unimplemented opcode read from the input stream stays consumed. -/
theorem test_V32_unimplemented_from_input :
    (after (startAt 0xFFFE [] ⟨[0xC3, 0x44], true⟩)).map (fun t => (t.pc, t.input.pending, t.fault)) =
      some (0xFFFE, [0x44], some (.unimplementedOpcode 0xC3 0xFFFE)) := by decide

/-- V31: a Faulted machine has no step. -/
theorem test_V31_no_step :
    after { startAt 0 [(0, 0xC3)] noInput with
      status := .faulted, fault := some (.unimplementedOpcode 0xC3 0) } = none := by decide

/-- V12 and V33: InputExhausted at the data read and at an operand byte. -/
theorem test_V12_V33_exhausted :
    (after (startAt 0 [(0, 0x3A), (1, 0xFE), (2, 0xFF)] noInput)).map (fun t => (t.pc, t.cycles, t.fault)) =
      some (0x0000, 0, some (.inputExhausted 0xFFFE)) ∧
    (after (startAt 0xFFFD [(0xFFFD, 0x3A)] noInput)).map (fun t => (t.pc, t.cycles, t.fault)) =
      some (0xFFFD, 0, some (.inputExhausted 0xFFFE)) := by decide

set_option maxRecDepth 8000 in
/-- V8, V13 and V34: Hold, with the state unchanged. -/
theorem test_V8_V13_V34_hold :
    stepKind (startAt 0xFFFE [] ⟨[], false⟩) = .hold ∧
    stepKind (startAt 0 [(0, 0x3A), (1, 0xFE), (2, 0xFF)] ⟨[], false⟩) = .hold ∧
    after (startAt 0xFFFD [(0xFFFD, 0x3A)] ⟨[], false⟩) = some (startAt 0xFFFD [(0xFFFD, 0x3A)] ⟨[], false⟩) := by decide

/-- The host's placing of a word: the next step from reset runs it (LDA 0x1234, STA 0x0000, JMP). -/
theorem test_withFetchWord_from_reset :
    (after (State.reset.withFetchWord 24 0x12343A)).map (fun t => (t.pc, t.cycles)) = some (0x0003, 13) ∧
    (after (State.reset.withFetchWord 8 0x32)).map (fun t => (t.pc, t.cycles)) = some (0x0003, 13) ∧
    (after (State.reset.withFetchWord 8 0xC3)).map (fun t => t.fault) =
      some (some (.unimplementedOpcode 0xC3 0x0000)) := by decide

/-- Placed at `IN_ADDR`, the opcode byte goes to the head of the input stream, where the fetch takes it. -/
theorem test_withFetchWord_at_input :
    (after ((startAt 0xFFFE [] ⟨[0x44], false⟩).withFetchWord 8 0x76)).map (fun t => (t.status, t.input.pending)) =
      some (.halted, [0x44]) := by decide

set_option maxRecDepth 8000 in
/-- R233 and R234: the image at 0x0000, the rest of the buffer elsewhere, 0xFFFE included, and the input untouched. -/
theorem test_launch :
    launch defaultConfig [0x3A, 0x10] [(0, 0x55), (0xFFFE, 0x66)] ⟨[0x01], false⟩ =
      .started (State.construct defaultConfig [(0, 0x3A), (1, 0x10), (0xFFFE, 0x66)] ⟨[0x01], false⟩) := by decide

/-! ### Witnesses: for every statement with hypotheses, operands and a state that meet all of them -/

/-- STA followed by HLT, of the vectors' program P2. -/
theorem test_witness_EncodeOfDecode :
    decode [0x32#8, 0xFF#8, 0xFF#8, 0x76#8] = .instr (.sta 0xFFFF#16) [0x76#8] := by decide

set_option maxRecDepth 4000 in
theorem test_witness_UnimplementedOpcodeCount : defaultConfig.admissible = true := by decide

/-- An image that fills the space, one byte of an image, and the last address past a short one. -/
theorem test_witness_LaunchState :
    (List.replicate 65536 (0x00 : Byte)).length ≤ 65536 ∧ Memory.wf [(0xFFFF, 0x66)] = true ∧
    0 < [(0x3A : Byte)].length ∧ [(0x3A : Byte)].length ≤ (0xFFFF : Word).toNat := by
  exact ⟨List.length_replicate ▸ Nat.le_refl _, by decide, by decide, by decide⟩

theorem test_witness_LaunchRefusesLargeImage : 65536 < (List.replicate 65537 (0x00 : Byte)).length :=
  List.length_replicate ▸ Nat.lt_succ_self _

/-- Each clause: one byte and two bytes pending; none, open and closed. -/
theorem test_witness_BusReadAtInput :
    (startAt 0 [] ⟨[0x99], true⟩).input.pending = 0x99#8 :: [] ∧
    (startAt 0 [] ⟨[0x99, 0x10], true⟩).input.pending = 0x99#8 :: 0x10#8 :: [] ∧
    ((startAt 0 [] ⟨[], false⟩).input.pending = [] ∧ (startAt 0 [] ⟨[], false⟩).input.closed = false) ∧
    ((startAt 0 [] noInput).input.pending = [] ∧ (startAt 0 [] noInput).input.closed = true) := by decide

/-- The two neighbours of `IN_ADDR`, of which one is `OUT_ADDR`. -/
theorem test_witness_BusReadElsewhere :
    (0xFFFD : Word) ≠ (startAt 0 [] noInput).cfg.inAddr ∧ (0xFFFF : Word) ≠ (startAt 0 [] noInput).cfg.inAddr := by
  decide

/-- `IN_ADDR`, with a cell there and another cell to stay. -/
theorem test_witness_BusWriteElsewhere :
    (0xFFFE : Word) ≠ (startAt 0 [(0xFFFE, 0x55)] noInput).cfg.outAddr ∧
    (startAt 0 [(0xFFFE, 0x55)] noInput).mem.wf = true ∧ (0xFFFF : Word) ≠ 0xFFFE := by decide

theorem test_witness_NopAliasCompletes :
    Instr.nop18 ∈ [Instr.nop08, .nop10, .nop18, .nop20, .nop28, .nop30, .nop38] ∧
    opcodeOf .nop18 ∈ (startAt 0 [] noInput).cfg.nopAliases := by decide

/-- A row without a rule under any parameters, and the last candidate, outside the default `NOP_ALIASES`. -/
theorem test_witness_UnimplementedTakesFault :
    Instr.jmpA16.admitted (startAt 0 [] noInput).cfg = false ∧
    Instr.nop38.admitted (startAt 0 [] noInput).cfg = false := by decide

/-- The two neighbours of `IN_ADDR`. -/
theorem test_witness_LdaLoadsFromBuffer :
    (0xFFFD : Word) ≠ (startAt 0 [] noInput).cfg.inAddr ∧ (0xFFFF : Word) ≠ (startAt 0 [] noInput).cfg.inAddr := by
  decide

theorem test_witness_LdaLoadsFromInput : (startAt 0 [] ⟨[0x99], true⟩).input.pending = 0x99#8 :: [] := by decide

/-- Both clauses: the stream open, and closed. -/
theorem test_witness_LdaWaitsOrFaultsWithoutInput :
    ((startAt 0 [] ⟨[], false⟩).input.pending = [] ∧ (startAt 0 [] ⟨[], false⟩).input.closed = false) ∧
    ((startAt 0 [] noInput).input.pending = [] ∧ (startAt 0 [] noInput).input.closed = true) := by decide

/-- `IN_ADDR`, and a cell that is there already. -/
theorem test_witness_StaStoresToBuffer :
    (0xFFFE : Word) ≠ (startAt 0 [(0xFFFE, 0x55)] noInput).cfg.outAddr ∧
    (startAt 0 [(0xFFFE, 0x55)] noInput).mem.wf = true := by decide

/-- Each policy. -/
theorem test_witness_AddBAuxParity :
    (startAt 0 [] noInput).cfg.flagPolicy = .unchanged ∧
    (withPolicy .havoc (startAt 0 [] noInput)).cfg.flagPolicy = .havoc ∧
    (withPolicy .intel8080 (startAt 0 [] noInput)).cfg.flagPolicy = .intel8080 := by decide

/-- ADD B is no STA, and has a next state. -/
theorem test_witness_OnlyStaStores :
    (∀ a, Instr.addB ≠ .sta a) ∧ ∃ t, exec .addB (startAt 0 [] noInput) = .next t :=
  ⟨fun _ h => (nomatch h), _, rfl⟩

/-- MOV B,A is neither LDA nor ADD B; ADD B is not MOV B,A. -/
theorem test_witness_RegisterFrame :
    ((∀ a, Instr.movBA ≠ .lda a) ∧ Instr.movBA ≠ .addB ∧ ∃ t, exec .movBA (startAt 0 [] noInput) = .next t) ∧
    (Instr.addB ≠ .movBA ∧ ∃ t, exec .addB (startAt 0 [] noInput) = .next t) :=
  ⟨⟨fun _ h => (nomatch h), by decide, _, rfl⟩, by decide, _, rfl⟩

/-- Both clauses: an instruction that is not ADD B, and ADD B under the policy `unchanged`. -/
theorem test_witness_FlagFrame :
    (Instr.movBA ≠ .addB ∧ ∃ t, exec .movBA (startAt 0 [] noInput) = .next t) ∧
    ((startAt 0 [] noInput).cfg.flagPolicy = .unchanged ∧ ∃ t, exec .addB (startAt 0 [] noInput) = .next t) :=
  ⟨⟨by decide, _, rfl⟩, by decide, _, rfl⟩

/-- Both clauses: `OUT_ADDR`, and `IN_ADDR` with another address to stay. -/
theorem test_witness_StaFrame :
    (startAt 0 [(0xFFFE, 0x55)] noInput).mem.wf = true ∧
    ((∃ t, exec (.sta 0xFFFF) (startAt 0 [(0xFFFE, 0x55)] noInput) = .next t) ∧
      (0xFFFF : Word) = (startAt 0 [(0xFFFE, 0x55)] noInput).cfg.outAddr) ∧
    ((∃ t, exec (.sta 0xFFFE) (startAt 0 [(0xFFFE, 0x55)] noInput) = .next t) ∧
      (0xFFFE : Word) ≠ (startAt 0 [(0xFFFE, 0x55)] noInput).cfg.outAddr ∧ (0xFFFD : Word) ≠ 0xFFFE) :=
  ⟨by decide, ⟨⟨_, rfl⟩, by decide⟩, ⟨_, rfl⟩, by decide, by decide⟩

/-- HLT and an unimplemented row each have a next state. -/
theorem test_witness_StatusAndFaultFrame :
    (∃ t, exec .hlt (startAt 0 [] noInput) = .next t) ∧ ∃ t, exec .jmpA16 (startAt 0 [] noInput) = .next t :=
  ⟨⟨_, rfl⟩, _, rfl⟩

theorem test_witness_InputFrame : ∃ t, exec (.lda 0xFFFE) (startAt 0 [] ⟨[0x99], true⟩) = .next t := ⟨_, rfl⟩

/-- STA across the top of the address space: Running, no wait, a next state that is not Faulted. -/
theorem test_witness_PcAfterInstruction :
    (startAt 0xFFFD [] noInput).status = .running ∧ execWaits (.sta 0x2000) (startAt 0xFFFD [] noInput) = false ∧
    ∃ t, exec (.sta 0x2000) (startAt 0xFFFD [] noInput) = .next t ∧ t.status ≠ .faulted :=
  ⟨rfl, rfl, _, rfl, by decide⟩

/-- The last place an LDA can stand without a byte of it at `IN_ADDR`, and across the top of the space (V14b). -/
theorem test_witness_StepRunsDecodedInstruction :
    ((startAt 0xFFFB [(0xFFFB, 0x3A), (0xFFFC, 0x10)] noInput).status = .running ∧
      (startAt 0xFFFB [(0xFFFB, 0x3A), (0xFFFC, 0x10)] noInput).fetchReadsInput = false ∧
      decode [0x3A#8, 0x10#8, 0x00#8] = .instr (.lda 0x0010#16) []) ∧
    (startAt 0xFFFF [(0, 0x10), (0x10, 0xAB), (0xFFFF, 0x3A)] noInput).fetchReadsInput = false ∧
    decode ([0, 1, 2].map fun k => readBuf (startAt 0xFFFF [(0, 0x10), (0x10, 0xAB), (0xFFFF, 0x3A)] noInput)
      (0xFFFF#16 + BitVec.ofNat 16 k)) = .instr (.lda 0x0010#16) [] := by decide

/-- Each clause: the opcode, the low byte (V14a) and the high byte of the operand at `IN_ADDR`. -/
theorem test_witness_StepFetchesFromInput :
    ((startAt 0xFFFE [] ⟨[0x00], true⟩).status = .running ∧
      (startAt 0xFFFE [] ⟨[0x00], true⟩).input.pending = 0x00#8 :: [] ∧
      (startAt 0xFFFE [] ⟨[0x00], true⟩).pc = (startAt 0xFFFE [] ⟨[0x00], true⟩).cfg.inAddr ∧
      decode [0x00#8, readBuf (startAt 0xFFFE [] ⟨[0x00], true⟩) 0xFFFF,
        readBuf (startAt 0xFFFE [] ⟨[0x00], true⟩) 0x0000] = .instr .nop [0x00#8, 0x00#8]) ∧
    ((startAt 0xFFFD [(0xFFFD, 0x3A)] ⟨[0x42], true⟩).pc + 1 = 0xFFFE ∧
      operandCount (readBuf (startAt 0xFFFD [(0xFFFD, 0x3A)] ⟨[0x42], true⟩) 0xFFFD) = 2 ∧
      decode [0x3A#8, 0x42#8, readBuf (startAt 0xFFFD [(0xFFFD, 0x3A)] ⟨[0x42], true⟩) 0xFFFF] =
        .instr (.lda 0x0042#16) []) ∧
    ((startAt 0xFFFC [(0xFFFC, 0x3A), (0xFFFD, 0x10)] ⟨[0x42], true⟩).pc + 2 = 0xFFFE ∧
      operandCount (readBuf (startAt 0xFFFC [(0xFFFC, 0x3A), (0xFFFD, 0x10)] ⟨[0x42], true⟩) 0xFFFC) = 2 ∧
      decode [0x3A#8, readBuf (startAt 0xFFFC [(0xFFFC, 0x3A), (0xFFFD, 0x10)] ⟨[0x42], true⟩) 0xFFFD, 0x42#8] =
        .instr (.lda 0x4210#16) []) := by decide

/-- The opcode (V8), the low byte (V33, V34) and the high byte at `IN_ADDR`; the stream open, and closed. -/
theorem test_witness_FetchWithoutInput :
    (startAt 0xFFFE [] ⟨[], false⟩).status = .running ∧
    (startAt 0xFFFE [] ⟨[], false⟩).fetchReadsInput = true ∧
    (startAt 0xFFFD [(0xFFFD, 0x3A)] noInput).fetchReadsInput = true ∧
    (startAt 0xFFFC [(0xFFFC, 0x32)] noInput).fetchReadsInput = true ∧
    (startAt 0xFFFE [] ⟨[], false⟩).input = ⟨[], false⟩ ∧
    (startAt 0xFFFC [(0xFFFC, 0x32)] noInput).input = ⟨[], true⟩ := by decide

/-- V27, and V32 at `IN_ADDR`. -/
theorem test_witness_UnimplementedStep :
    ((startAt 0 [(0, 0xC3), (2, 0x01)] noInput).status = .running ∧
      (startAt 0 [(0, 0xC3), (2, 0x01)] noInput).pc ≠ (startAt 0 [(0, 0xC3), (2, 0x01)] noInput).cfg.inAddr ∧
      ruleOf defaultConfig (readBuf (startAt 0 [(0, 0xC3), (2, 0x01)] noInput) 0x0000) = .unimplemented) ∧
    ((startAt 0xFFFE [] ⟨[0xC3, 0x44], true⟩).pc = (startAt 0xFFFE [] ⟨[0xC3, 0x44], true⟩).cfg.inAddr ∧
      (startAt 0xFFFE [] ⟨[0xC3, 0x44], true⟩).input.pending = 0xC3#8 :: [0x44#8] ∧
      ruleOf (startAt 0xFFFE [] ⟨[0xC3, 0x44], true⟩).cfg 0xC3#8 = .unimplemented) := by decide

/-- LDA at 0xFFFD whose low byte 0xFE is the only input and whose high byte 0xFF is in the buffer; open, and closed. -/
theorem test_witness_HeldAttemptGivesInputBack :
    (startAt 0xFFFD [(0xFFFD, 0x3A), (0xFFFF, 0xFF)] ⟨[0xFE], false⟩).status = .running ∧
    (startAt 0xFFFD [(0xFFFD, 0x3A), (0xFFFF, 0xFF)] ⟨[0xFE], false⟩).pc + 1 = defaultConfig.inAddr ∧
    readBuf (startAt 0xFFFD [(0xFFFD, 0x3A), (0xFFFF, 0xFF)] ⟨[0xFE], false⟩) 0xFFFD = 0x3A#8 ∧
    (startAt 0xFFFD [(0xFFFD, 0x3A), (0xFFFF, 0xFF)] ⟨[0xFE], false⟩).input.pending = [0xFE#8] ∧
    joinBytes (readBuf (startAt 0xFFFD [(0xFFFD, 0x3A), (0xFFFF, 0xFF)] ⟨[0xFE], false⟩) 0xFFFF) 0xFE#8 = 0xFFFE#16 ∧
    (startAt 0xFFFD [(0xFFFD, 0x3A), (0xFFFF, 0xFF)] ⟨[0xFE], false⟩).input.closed = false ∧
    (startAt 0xFFFD [(0xFFFD, 0x3A), (0xFFFF, 0xFF)] ⟨[0xFE], true⟩).input.closed = true := by decide

/-- A Halted state and a Faulted one. -/
theorem test_witness_TerminalStates :
    ({ State.reset with status := .halted } : State).status = .halted ∧
    ({ State.reset with status := .faulted, fault := some (.inputExhausted 0xFFFE) } : State).status = .faulted :=
  ⟨rfl, rfl⟩

/-- V27: the step from a Running state leaves the machine Faulted. -/
theorem test_witness_FaultIsPrecise :
    (startAt 0 [(0, 0xC3)] noInput).status = .running ∧
    ∃ t, step (startAt 0 [(0, 0xC3)] noInput) = .next t ∧ t.status = .faulted := ⟨rfl, _, rfl, rfl⟩

/-- V25: the step from a Running state leaves the machine Halted. -/
theorem test_witness_OnlyHltHalts :
    (startAt 0 [(0, 0x76)] noInput).status = .running ∧
    ∃ t, step (startAt 0 [(0, 0x76)] noInput) = .next t ∧ t.status = .halted := ⟨rfl, _, rfl, rfl⟩

/-- LDA 0xFFFD, next to `IN_ADDR`. -/
theorem test_witness_StepCompletesWhenAdmitted :
    (startAt 0 [(0, 0x3A), (1, 0xFD), (2, 0xFF)] noInput).status = .running ∧
    (startAt 0 [(0, 0x3A), (1, 0xFD), (2, 0xFF)] noInput).fetchReadsInput = false ∧
    ruleOf defaultConfig (readBuf (startAt 0 [(0, 0x3A), (1, 0xFD), (2, 0xFF)] noInput) 0x0000) ≠ .unimplemented ∧
    joinBytes (readBuf (startAt 0 [(0, 0x3A), (1, 0xFD), (2, 0xFF)] noInput) 0x0002)
      (readBuf (startAt 0 [(0, 0x3A), (1, 0xFD), (2, 0xFF)] noInput) 0x0001) ≠ defaultConfig.inAddr := by decide

/-- LDA from `IN_ADDR` with one byte pending, the stream open. -/
theorem test_witness_LateInputChangesNothing :
    (startAt 0 [(0, 0x3A), (1, 0xFE), (2, 0xFF)] ⟨[0x99], false⟩).status = .running ∧
    (startAt 0 [(0, 0x3A), (1, 0xFE), (2, 0xFF)] ⟨[0x99], false⟩).input.closed = false ∧
    stepWaits (startAt 0 [(0, 0x3A), (1, 0xFE), (2, 0xFF)] ⟨[0x99], false⟩) = false := by decide

/-- Two buffers that differ in the cell at `IN_ADDR`: of a state with a next state, and of one without. -/
theorem test_witness_InputCellNeverRead :
    Memory.wf [] = true ∧ Memory.wf [(0xFFFE, 0x55)] = true ∧
    SameButInputCell (startAt 0 [] noInput) (startAt 0 [(0xFFFE, 0x55)] noInput) ∧
    (∃ t, step (startAt 0 [] noInput) = .next t) ∧
    SameButInputCell { startAt 0 [] noInput with status := .faulted }
      { startAt 0 [(0xFFFE, 0x55)] noInput with status := .faulted } ∧
    ∃ f, step { startAt 0 [] noInput with status := .faulted } = .fault f := by
  have cell : ∀ a : Word, a ≠ 0xFFFE → memRead [(0xFFFE, 0x55)] a.toNat = 0x00 := by
    intro a ha
    have : ¬ a.toNat = 0xFFFE := fun e => ha (BitVec.eq_of_toNat_eq e)
    simp [memRead, unlistedByte, this]
  exact ⟨by decide, by decide, ⟨rfl, cell⟩, ⟨_, rfl⟩, ⟨rfl, cell⟩, _, rfl⟩

/-- Two states that differ in flags, cycles, output, sp and C. -/
theorem test_witness_UnreadStateInvisible :
    SameButUnread (startAt 0 [] noInput)
      { startAt 0 [] noInput with
        flags := ⟨true, true, true, true, true⟩
        cycles := 9
        output := [0x41]
        sp := 0x1000
        regs := { (startAt 0 [] noInput).regs with c := 0x12 } } ∧
    ∃ t, step (startAt 0 [] noInput) = .next t := ⟨rfl, _, rfl⟩

/-- LDA whose low operand byte and data byte both come from the input stream: two bytes in one step. -/
theorem test_witness_InputConsumedInOrder :
    ∃ t, step (startAt 0xFFFD [(0xFFFD, 0x3A), (0xFFFF, 0xFF)] ⟨[0xFE, 0x21], false⟩) = .next t ∧
      t.input.pending = [] := ⟨_, rfl, rfl⟩

/-- V15: a step that writes to the output stream. -/
theorem test_witness_OutputOnlyGrows :
    ∃ t, step (withAB 0x4E 0 (startAt 0 [(0, 0x32), (1, 0xFF), (2, 0xFF)] noInput)) = .next t ∧ t.output = [0x4E] :=
  ⟨_, rfl, rfl⟩

/-- V1: a step that adds cycles. -/
theorem test_witness_CyclesNeverDecrease : ∃ t, step (startAt 0 [] noInput) = .next t ∧ t.cycles = 4 := ⟨_, rfl, rfl⟩

/-- A step, and an action of the host. -/
theorem test_witness_ParametersConstant :
    (∃ t, step State.reset = .next t) ∧ ∃ t, envStep .close State.reset = some t := ⟨⟨_, rfl⟩, _, rfl⟩

/-- Each clause: two plain addresses, one beside `IN_ADDR`; a byte from the input stored at `IN_ADDR`; the output, with
a buffer byte, and with the input byte of the clause before. -/
theorem test_witness_LoadStoreRoundTrip :
    (startAt 0 [(0x10, 0x5C)] ⟨[0x99], true⟩).mem.wf = true ∧
    ((0x0010 : Word) ≠ defaultConfig.inAddr ∧ (0x0010 : Word) ≠ defaultConfig.outAddr ∧
      (0xFFFD : Word) ≠ defaultConfig.inAddr ∧ (0xFFFD : Word) ≠ defaultConfig.outAddr ∧
      (0x0010 : Word) ≠ 0xFFFD) ∧
    ((0xFFFE : Word) = defaultConfig.inAddr ∧
      (startAt 0 [(0x10, 0x5C)] ⟨[0x99], true⟩).input.pending = 0x99#8 :: [] ∧
      (0xFFFE : Word) ≠ defaultConfig.outAddr) ∧
    ((0xFFFD : Word) ≠ defaultConfig.inAddr ∧ (0xFFFF : Word) = defaultConfig.outAddr) := by decide

/-- V18, with A the HLT opcode and with A an opcode without a rule. -/
theorem test_witness_StoreToNextOpcodeIsFetched :
    (withAB 0x76 0 (startAt 0 [(0, 0x32), (1, 0x03), (3, 0xC3)] noInput)).status = .running ∧
    (withAB 0x76 0 (startAt 0 [(0, 0x32), (1, 0x03), (3, 0xC3)] noInput)).mem.wf = true ∧
    (withAB 0x76 0 (startAt 0 [(0, 0x32), (1, 0x03), (3, 0xC3)] noInput)).fetchReadsInput = false ∧
    readBuf (startAt 0 [(0, 0x32), (1, 0x03), (3, 0xC3)] noInput) 0x0000 = 0x32#8 ∧
    joinBytes (readBuf (startAt 0 [(0, 0x32), (1, 0x03), (3, 0xC3)] noInput) 0x0002)
      (readBuf (startAt 0 [(0, 0x32), (1, 0x03), (3, 0xC3)] noInput) 0x0001) = (0x0000 : Word) + 3 ∧
    (0x0000 : Word) + 3 ≠ defaultConfig.inAddr ∧ (0x0000 : Word) + 3 ≠ defaultConfig.outAddr ∧
    (withAB 0x76 0 (startAt 0 [] noInput)).regs.a = 0x76#8 ∧
    ruleOf defaultConfig (withAB 0xC3 0 (startAt 0 [] noInput)).regs.a = .unimplemented := by decide

/-- A Halted state, and a state the host's input makes of it. -/
theorem test_witness_TerminalStatesAreForever :
    ({ State.reset with status := .halted } : State).status ≠ .running ∧
    ∃ t, Reachable { State.reset with status := .halted } t ∧ t.input.pending = [0x21#8] :=
  ⟨by decide, _, .env (.append [0x21#8]) .start rfl, rfl⟩

/-- The state at reset, and a Faulted state with its record. -/
theorem test_witness_StepKeepsInv :
    (State.reset.Inv ∧ ∃ t, step State.reset = .next t) ∧
    ∃ t, step (startAt 0 [(0, 0xC3)] noInput) = .next t ∧ t.Inv :=
  ⟨⟨⟨rfl, rfl, rfl⟩, _, rfl⟩, _, rfl, rfl, rfl, rfl⟩

theorem test_witness_HostActionsKeepInv :
    State.reset.Inv ∧ ∃ t, envStep (.append [0x21#8]) State.reset = some t := ⟨⟨rfl, rfl, rfl⟩, _, rfl⟩

theorem test_witness_LaunchHasInv :
    Memory.wf [(0xFFFE, 0x66)] = true ∧
    ∃ s, launch defaultConfig [0x76#8] [(0xFFFE, 0x66)] ⟨[], false⟩ = .started s := ⟨rfl, _, rfl⟩

/-- Both clauses: the stream open, and closed. -/
theorem test_witness_HostTouchesOnlyStreams :
    (startAt 0 [] ⟨[], false⟩).input.closed = false ∧ (startAt 0 [] noInput).input.closed = true := by decide

end Sys2Proof.Tests
end

section
/-! PROOF. What `exec` does, as a relation between a state and the next with one constructor for each way an instruction
can end; the frames of 10_state.md are read off it. -/

namespace Sys2Proof.Machine

@[simp] theorem raiseUnimplemented_eq (op : Byte) (s : State) :
    raiseUnimplemented op s = takeFault (.unimplementedOpcode op s.pc) s := rfl

/-- `ExecEffect i s t`: executing `i` in `s` can end in `t`. It is `exec` as a relation (`exec_eq_next_iff`). -/
inductive ExecEffect : Instr → State → State → Prop where
  /-- The data read of an LDA holds: nothing is committed (40_fetch_decode_execute.md R105). -/
  | waits {i : Instr} {s : State} (h : execWaits i s = true) : ExecEffect i s s
  /-- The opcode has no execution rule (R106). -/
  | unimplemented {i : Instr} {s : State} (h : ruleOf s.cfg (opcodeOf i) = .unimplemented) :
      ExecEffect i s (raiseUnimplemented (opcodeOf i) s)
  /-- The data read of an LDA finds the stream exhausted (R108). -/
  | exhausted {a : Word} {s : State} {f : FaultRecord} (h : busRead s a = .raised f s) :
      ExecEffect (.lda a) s (takeFault f s)
  /-- NOP and the NOP aliases (41_no_operation.md R130, R131). -/
  | nop {i : Instr} {s : State} (h : ruleOf s.cfg (opcodeOf i) = .nop) :
      ExecEffect i s (completeStep (opcodeOf i) id s)
  | sta (a : Word) (s : State) :
      ExecEffect (.sta a) s (completeStep 0x32#8 (fun t => busWrite a (getReg .a t) t) s)
  | lda {a : Word} {s u : State} {v : Byte} (h : busRead s a = .ok v u) :
      ExecEffect (.lda a) s (completeStep 0x3A#8 (setReg .a v) u)
  | movBA (s : State) : ExecEffect .movBA s (completeStep 0x47#8 (fun t => setReg .b (getReg .a t) t) s)
  | addB (s : State) : ExecEffect .addB s (completeStep 0x80#8 addBToA s)
  | hlt (s : State) : ExecEffect .hlt s (enterHalted (completeStep 0x76#8 id s))

theorem execEffect_of_exec {i : Instr} {s t : State} (h : exec i s = .next t) : ExecEffect i s t := by
  rcases exec_cases i s with ⟨hr, e⟩ | ⟨hr, e⟩ | ⟨a, rfl⟩ | ⟨a, rfl⟩ | rfl | rfl | rfl
  · rw [e] at h; cases h; exact .nop hr
  · rw [e] at h; cases h; exact .unimplemented hr
  · cases h; exact .sta a s
  · change execLda a s = .next t at h
    rcases execLda_cases a s with ⟨hw, e⟩ | ⟨f, u, hr, e⟩ | ⟨v, u, hr, e⟩ <;> rw [e] at h <;> cases h
    · exact .waits hw
    · obtain ⟨rfl, _, _⟩ := busRead_raised hr; exact .exhausted hr
    · exact .lda hr
  · cases h; exact .movBA s
  · cases h; exact .addB s
  · cases h; exact .hlt s

/-- Only an LDA waits, and then it leaves the state as it is. -/
theorem exec_of_waits {i : Instr} {s : State} (h : execWaits i s = true) : exec i s = .next s := by
  unfold execWaits at h
  split at h
  · change execLda _ s = .next s
    simp [execLda, busRead_hold.mpr h]
  · cases h

theorem exec_of_rule_nop {i : Instr} {s : State} (h : ruleOf s.cfg (opcodeOf i) = .nop) :
    exec i s = .next (completeStep (opcodeOf i) id s) := by
  rcases exec_cases i s with ⟨_, e⟩ | ⟨hr, _⟩ | ⟨a, rfl⟩ | ⟨a, rfl⟩ | rfl | rfl | rfl
  · exact e
  · rw [h] at hr; cases hr
  all_goals simp [opcodeOf] at h

theorem exec_of_rule_unimplemented {i : Instr} {s : State} (h : ruleOf s.cfg (opcodeOf i) = .unimplemented) :
    exec i s = .next (raiseUnimplemented (opcodeOf i) s) := by
  rcases exec_cases i s with ⟨hr, _⟩ | ⟨_, e⟩ | ⟨a, rfl⟩ | ⟨a, rfl⟩ | rfl | rfl | rfl
  · rw [h] at hr; cases hr
  · exact e
  all_goals simp [opcodeOf] at h

/-- `exec` and its effect relation are the same thing. -/
theorem exec_eq_next_iff {i : Instr} {s t : State} : exec i s = .next t ↔ ExecEffect i s t := by
  refine ⟨execEffect_of_exec, fun h => ?_⟩
  cases h with
  | waits hw => exact exec_of_waits hw
  | unimplemented hr => exact exec_of_rule_unimplemented hr
  | nop hr => exact exec_of_rule_nop hr
  | @exhausted a s f hr =>
    change execLda a s = _
    simp only [execLda, hr]
  | @lda a s u v hr =>
    change execLda a s = _
    simp only [execLda, hr]
  | sta => rfl
  | movBA => rfl
  | addB => rfl
  | hlt => rfl

/-- A Bus read that answers a value takes at most one byte of the input. -/
theorem busRead_ok_took {s u : State} {a : Word} {v : Byte} (h : busRead s a = .ok v u) :
    ∃ used, TookInput used s u ∧ used.length ≤ 1 := by
  rcases busRead_ok h with ⟨_, _, rfl⟩ | ⟨_, htk⟩
  · exact ⟨[], .refl _, Nat.zero_le 1⟩
  · exact ⟨[v], htk, Nat.le_refl 1⟩

theorem setAddFlags_draws (x y : Byte) (s : State) :
    (setAddFlags x y s).draws = if s.cfg.flagPolicy = .havoc then s.draws + 2 else s.draws := by
  cases h : s.cfg.flagPolicy <;> simp [setAddFlags, setAuxParity, h]

/-- Under the policy `unchanged` an addition keeps AC and P (43_arithmetic.md R164). -/
theorem setAddFlags_ac_p_of_unchanged {s : State} (h : s.cfg.flagPolicy = .unchanged) (x y : Byte) :
    (setAddFlags x y s).flags.ac = s.flags.ac ∧ (setAddFlags x y s).flags.p = s.flags.p := by
  simp [setAddFlags, setAuxParity, h]

/-- The pc of a completed instruction whose execute part leaves the pc alone (40_fetch_decode_execute.md R109). -/
theorem completeStep_pc_toNat {op : Byte} {body : State → State} (hb : ∀ t, (body t).pc = t.pc) (s : State) :
    (completeStep op body s).pc.toNat = (s.pc.toNat + sizeOfOpcode op) % 65536 := by
  simp [hb, BitVec.toNat_add]

/-! ### Frames of `exec` -/

/-- Settles O30: each effect writes at most the register its instruction names. -/
theorem registerFrame : Obligations.RegisterFrame := by
  intro i s t h
  cases execEffect_of_exec h with
  | lda hr => obtain ⟨_, htk, _⟩ := busRead_ok_took hr; simp [htk.frame]
  | _ => simp

/-- Settles O31: of all effects only that of ADD B writes flags, and `setAddFlags` keeps AC and P under `unchanged`. -/
theorem flagFrame : Obligations.FlagFrame := by
  intro i s t h
  cases execEffect_of_exec h with
  | lda hr => obtain ⟨_, htk, _⟩ := busRead_ok_took hr; simp [htk.frame]
  | addB => exact ⟨fun hne => absurd rfl hne, fun hp => by simp [setAddFlags_ac_p_of_unchanged, hp]⟩
  | _ => simp

/-- Settles O33: an effect completes, halts or takes a fault of the state it started in. -/
theorem statusAndFaultFrame : Obligations.StatusAndFaultFrame := by
  intro i s t h
  cases execEffect_of_exec h with
  | unimplemented => exact .inr (.inr ⟨_, rfl⟩)
  | exhausted => exact .inr (.inr ⟨_, rfl⟩)
  | hlt => exact .inr (.inl ⟨rfl, rfl, rfl⟩)
  | lda hr => obtain ⟨_, htk, _⟩ := busRead_ok_took hr; exact .inl (by simp [htk.frame])
  | _ => exact .inl (by simp)

/-- Settles O35: an effect that neither waits nor faults is a completed step, whose pc advance nothing undoes. -/
theorem pcAfterInstruction : Obligations.PcAfterInstruction := by
  intro i s t _ hw h hnf
  cases execEffect_of_exec h with
  | waits hw' => rw [hw] at hw'; cases hw'
  | unimplemented => exact absurd rfl hnf
  | exhausted => exact absurd rfl hnf
  | nop => exact completeStep_pc_toNat (fun _ => rfl) s
  | sta => exact completeStep_pc_toNat (by simp) s
  | lda hr =>
    obtain ⟨_, htk, _⟩ := busRead_ok_took hr
    obtain ⟨-, -, hpc, -⟩ := htk.frame
    rw [← hpc]
    exact completeStep_pc_toNat (by simp) _
  | movBA => exact completeStep_pc_toNat (by simp) s
  | addB => exact completeStep_pc_toNat (by simp) s
  | hlt => exact completeStep_pc_toNat (fun _ => rfl) s

/-- An instruction leaves the cycles alone or adds the cost of its opcode (R113). -/
theorem exec_cycles {i : Instr} {s t : State} (h : exec i s = .next t) :
    t.cycles = s.cycles ∨ t.cycles = s.cycles + cyclesOfOpcode s.cfg (opcodeOf i) := by
  cases execEffect_of_exec h with
  | waits => exact .inl rfl
  | unimplemented => exact .inl rfl
  | exhausted => exact .inl rfl
  | lda hr => obtain ⟨_, htk, _⟩ := busRead_ok_took hr; exact .inr (by simp [htk.frame, opcodeOf])
  | _ => exact .inr (by simp [opcodeOf])

/-- An instruction takes at most one byte of the input, from its front (20_memory.md R54). -/
theorem exec_input {i : Instr} {s t : State} (h : exec i s = .next t) :
    ∃ used, s.input.pending = used ++ t.input.pending ∧ used.length ≤ 1 ∧ t.input.closed = s.input.closed := by
  cases execEffect_of_exec h with
  | lda hr =>
    obtain ⟨used, htk, hle⟩ := busRead_ok_took hr
    exact ⟨used, by simpa using htk.1, hle, by simp [htk.frame]⟩
  | _ => exact ⟨[], by simp⟩

/-- Every instruction keeps the canonical form of the buffer (10_state.md R34). -/
theorem exec_wf {i : Instr} {s t : State} (hm : s.mem.wf = true) (h : exec i s = .next t) : t.mem.wf = true := by
  cases execEffect_of_exec h with
  | sta a => exact busWrite_wf (s := advancePc _ s) hm a _
  | lda hr => obtain ⟨_, htk, _⟩ := busRead_ok_took hr; simpa [htk.frame] using hm
  | _ => simpa using hm

end Sys2Proof.Machine
end

section
/-! PROOF. What fetching an instruction takes from the input: the addresses a fetch reads are distinct, so it meets
`IN_ADDR` at most once (20_memory.md R54, R62). -/

namespace Sys2Proof.Machine

/-- The state an action that reads through the Bus leaves; a hold leaves none of its own. -/
def BusResult.left? {α : Type} : BusResult α → Option State
  | .ok _ t => some t
  | .hold => none
  | .raised _ t => some t

@[simp] theorem BusResult.left?_ok {α : Type} (v : α) (t : State) : (BusResult.ok v t).left? = some t := rfl
@[simp] theorem BusResult.left?_hold {α : Type} : (BusResult.hold : BusResult α).left? = none := rfl
@[simp] theorem BusResult.left?_raised {α : Type} (f : FaultRecord) (t : State) :
    (BusResult.raised f t : BusResult α).left? = some t := rfl

/-- The addresses of `n` Bus reads from `a` on (30_encoding.md R84). -/
def readAddresses : Nat → Word → List Word
  | 0, _ => []
  | n + 1, a => a :: readAddresses n (a + 1)

/-- `t` is `s` after a series of reads at `addrs`: at most one byte was taken for each of them that is `IN_ADDR`. -/
def TookAtMost (addrs : List Word) (s t : State) : Prop :=
  ∃ used, TookInput used s t ∧ used.length ≤ addrs.count s.cfg.inAddr

theorem TookAtMost.append {as bs : List Word} {s t u : State} (h : TookAtMost as s t) (k : TookAtMost bs t u) :
    TookAtMost (as ++ bs) s u := by
  obtain ⟨xs, hx, hxl⟩ := h
  obtain ⟨ys, hy, hyl⟩ := k
  obtain ⟨hcfg, -⟩ := hx.frame
  rw [hcfg] at hyl
  exact ⟨xs ++ ys, hx.trans hy, by simp only [List.length_append, List.count_append]; omega⟩

theorem TookAtMost.append_right {as : List Word} {s t : State} (h : TookAtMost as s t) (bs : List Word) :
    TookAtMost (as ++ bs) s t :=
  h.append ⟨[], .refl t, Nat.zero_le _⟩

theorem busRead_tookAtMost {s t : State} {a : Word} (h : (busRead s a).left? = some t) : TookAtMost [a] s t := by
  cases hr : busRead s a with
  | hold => rw [hr] at h; cases h
  | raised f u =>
    rw [hr] at h; cases h
    obtain ⟨rfl, _, _⟩ := busRead_raised hr
    exact ⟨[], .refl _, Nat.zero_le _⟩
  | ok b u =>
    rw [hr] at h; cases h
    rcases busRead_ok hr with ⟨_, _, rfl⟩ | ⟨rfl, htk⟩
    · exact ⟨[], .refl _, Nat.zero_le _⟩
    · exact ⟨[b], htk, by simp⟩

theorem busReads_tookAtMost {n : Nat} {a : Word} {s t : State} (h : (busReads n a s).left? = some t) :
    TookAtMost (readAddresses n a) s t := by
  induction n generalizing a s with
  | zero => cases h; exact ⟨[], .refl _, Nat.zero_le _⟩
  | succ n ih =>
    unfold busReads at h
    cases hr : busRead s a with
    | hold => simp [hr] at h
    | raised f u =>
      rw [hr] at h; cases h
      exact (busRead_tookAtMost (by rw [hr]; rfl)).append_right _
    | ok b u =>
      rw [hr] at h
      refine (busRead_tookAtMost (a := a) (t := u) (by rw [hr]; rfl)).append (ih ?_)
      cases hrs : busReads n (a + 1) u <;> simp_all

theorem readOperand_left? (n : Nat) (p : Word) (s : State) :
    (readOperand n p s).left? = (busReads n (p + 1) s).left? := by
  unfold readOperand
  cases busReads n (p + 1) s <;> rfl

theorem readAddresses_fetch_nodup (op : Byte) (p : Word) :
    (readAddresses (operandCount op + 1) p).Nodup := by
  rcases operandCount_zero_or_two op with h | h
  · simp [h, readAddresses]
  · simp only [h, readAddresses, word_add_one_one]
    simp

/-- However a fetch ends, it has taken at most one byte of the input, and changed nothing else. -/
theorem fetchInstr_took {s t : State} (h : (fetchInstr s).left? = some t) :
    ∃ used, TookInput used s t ∧ used.length ≤ 1 := by
  have one : ∀ op : Byte, TookAtMost (readAddresses (operandCount op + 1) s.pc) s t →
      ∃ used, TookInput used s t ∧ used.length ≤ 1 := fun op ⟨used, ht, hle⟩ =>
    ⟨used, ht, hle.trans (List.nodup_iff_count_le_one.mp (readAddresses_fetch_nodup op s.pc) _)⟩
  unfold fetchInstr at h
  cases hr : busRead s s.pc with
  | hold => simp [hr] at h
  | raised f u =>
    rw [hr] at h; cases h
    exact one 0 ((busRead_tookAtMost (by rw [hr]; rfl)).append_right _)
  | ok op u =>
    rw [hr] at h
    have rest : (busReads (operandCount op) (s.pc + 1) u).left? = some t := by
      rw [← readOperand_left?]
      cases hro : readOperand (operandCount op) s.pc u <;> simp_all
    exact one op ((busRead_tookAtMost (by rw [hr]; rfl)).append (busReads_tookAtMost rest))

/-- Everything a step to a next state can be, with what its fetch took from the input. -/
theorem step_next_fetched {s t : State} (h : step s = .next t) :
    t = s ∨ ∃ used u, TookInput used s u ∧ used.length ≤ 1 ∧ s.status = .running ∧
      ((∃ f, Exhausted f u ∧ t = takeFault f u) ∨ ∃ i, fetchInstr s = .ok i u ∧ exec i u = .next t) := by
  rcases step_next_cases h with rfl | ⟨hs, f, u, hf, rfl⟩ | ⟨hs, i, u, hf, _, he⟩
  · exact .inl rfl
  · obtain ⟨used, htk, hle⟩ := fetchInstr_took (by rw [hf]; rfl)
    exact .inr ⟨used, u, htk, hle, hs, .inl ⟨f, (fetchInstr_raised hf).1, rfl⟩⟩
  · obtain ⟨used, htk, hle⟩ := fetchInstr_took (by rw [hf]; rfl)
    exact .inr ⟨used, u, htk, hle, hs, .inr ⟨i, hf, he⟩⟩

/-! ### Frames of a step -/

/-- Settles O48: at most one byte goes in the fetch, and at most one in the data read. -/
theorem inputConsumedInOrder : Obligations.InputConsumedInOrder := by
  intro s t h
  rcases step_next_fetched h with rfl | ⟨used, u, htk, hle, -, ⟨f, -, rfl⟩ | ⟨i, -, he⟩⟩
  · exact ⟨[], rfl, Nat.zero_le _, rfl⟩
  · exact ⟨used, htk.1, hle.trans (by omega), by simp [htk.frame]⟩
  · obtain ⟨used', hp, hle', hc⟩ := exec_input he
    refine ⟨used ++ used', ?_, ?_, ?_⟩
    · rw [htk.1, hp, List.append_assoc]
    · rw [List.length_append]; omega
    · rw [hc]; simp [htk.frame]

/-- Settles O50: the fetch leaves the cycles alone, and the instruction adds its cost or nothing. -/
theorem cyclesNeverDecrease : Obligations.CyclesNeverDecrease := by
  intro s t h
  rcases step_next_fetched h with rfl | ⟨used, u, htk, -, -, ⟨f, -, rfl⟩ | ⟨i, hf, he⟩⟩
  · exact .inl rfl
  · exact .inl (by simp [htk.frame])
  · rcases exec_cycles he with hc | hc
    · exact .inl (by simp [hc, htk.frame])
    · exact .inr ⟨i, u, hf, by simp [hc, htk.frame]⟩

theorem step_cfg {s t : State} (h : step s = .next t) : t.cfg = s.cfg := by
  rcases step_next_fetched h with rfl | ⟨used, u, htk, -, -, ⟨f, -, rfl⟩ | ⟨i, -, he⟩⟩
  · rfl
  · simp [htk.frame]
  · obtain ⟨-, -, -, -, -, -, hcfg, -⟩ := registerFrame i u t he
    simp [hcfg, htk.frame]

/-- Everything an action of the host can be (20_memory.md R58, R60). -/
theorem envStep_cases {act : EnvAction} {s t : State} (h : envStep act s = some t) :
    (∃ bs, s.input.closed = false ∧ t = appendInput bs s) ∨
    (s.input.closed = false ∧ t = closeInput s) ∨ ∃ n, t = dropOutput n s := by
  cases act with
  | append bs => simp [envStep] at h; exact .inl ⟨bs, h.1, h.2.symm⟩
  | close => simp [envStep] at h; exact .inr (.inl ⟨h.1, h.2.symm⟩)
  | take n => simp [envStep] at h; exact .inr (.inr ⟨n, h.symm⟩)

/-- Settles O51: neither a fetch, nor an instruction, nor the host writes the parameters. -/
theorem parametersConstant : Obligations.ParametersConstant := by
  refine ⟨fun s t h => step_cfg h, fun act s t h => ?_⟩
  rcases envStep_cases h with ⟨bs, -, rfl⟩ | ⟨-, rfl⟩ | ⟨n, rfl⟩ <;> rfl

/-- Settles O58: the three actions of the host, by whether the stream is open. -/
theorem hostTouchesOnlyStreams : Obligations.HostTouchesOnlyStreams := by
  refine fun s bs n => ⟨fun ho => ⟨?_, ?_⟩, fun hc => ⟨?_, ?_⟩, rfl⟩
  · simp [envStep, ho, appendInput]
  · simp [envStep, ho, closeInput]
  · simp [envStep, hc]
  · simp [envStep, hc]

end Sys2Proof.Machine
end

section
/-! PROOF. The invariant: construction has it, a step keeps it, an action of the host keeps it. -/

namespace Sys2Proof.Machine

theorem inv_of_no_fault {s : State} (hm : s.mem.wf = true) (hs : s.status ≠ .faulted) (hf : s.fault = none) :
    s.Inv := by
  refine ⟨hm, ?_, ?_⟩
  · simp [State.faultMatches, hs, hf]
  · simp [State.faultGenuine, hf]

theorem State.Inv.fault_eq_none {s : State} (h : s.Inv) (hs : s.status ≠ .faulted) : s.fault = none := by
  obtain ⟨-, hfm, -⟩ := h
  cases hf : s.fault with
  | none => rfl
  | some f => simp [State.faultMatches, hs, hf] at hfm

theorem inv_takeFault {f : FaultRecord} {s : State} (hm : s.mem.wf = true)
    (hg : (takeFault f s).faultGenuine = true) : (takeFault f s).Inv :=
  ⟨hm, rfl, hg⟩

/-- The fault of an opcode without a rule is one this machine can have raised (60_exceptions.md R201). -/
theorem inv_raiseUnimplemented {op : Byte} {s : State} (hm : s.mem.wf = true)
    (hr : ruleOf s.cfg op = .unimplemented) : (raiseUnimplemented op s).Inv :=
  inv_takeFault hm (by simp [State.faultGenuine, hr])

/-- The fault of an exhausted stream is one this machine can have raised (60_exceptions.md R204). -/
theorem Exhausted.inv_takeFault {f : FaultRecord} {s : State} (h : Exhausted f s) (hm : s.mem.wf = true) :
    (takeFault f s).Inv := by
  obtain ⟨rfl, hp, hc⟩ := h
  exact Machine.inv_takeFault hm (by simp [State.faultGenuine, hp, hc])

/-- Executing an instruction keeps the invariant of a state without a fault. -/
theorem exec_keeps_inv {i : Instr} {s t : State} (hi : s.Inv) (hs : s.status ≠ .faulted) (h : exec i s = .next t) :
    t.Inv := by
  have hm := exec_wf hi.1 h
  have hf := hi.fault_eq_none hs
  cases execEffect_of_exec h with
  | waits => exact hi
  | unimplemented hr => exact inv_raiseUnimplemented hm hr
  | exhausted hr =>
    obtain ⟨-, -, he⟩ := busRead_raised hr
    exact he.inv_takeFault hm
  | lda hr =>
    obtain ⟨_, htk, _⟩ := busRead_ok_took hr
    exact inv_of_no_fault hm (by simp [htk.frame, hs]) (by simp [htk.frame, hf])
  | _ => exact inv_of_no_fault hm (by simp [hs]) (by simp [hf])

/-- Settles O55: a fetch changes only the input of a state without a fault, and `exec_keeps_inv` does the rest. -/
theorem stepKeepsInv : Obligations.StepKeepsInv := by
  intro s t hi h
  rcases step_next_fetched h with rfl | ⟨used, u, htk, -, hs, hcase⟩
  · exact hi
  have hus : u.status ≠ .faulted := by simp [htk.frame, hs]
  have huf : u.fault = none := by simp [htk.frame, hi.fault_eq_none, hs]
  have hum : u.mem.wf = true := by simpa [htk.frame] using hi.1
  rcases hcase with ⟨f, he, rfl⟩ | ⟨i, -, he⟩
  · exact he.inv_takeFault hum
  · exact exec_keeps_inv (inv_of_no_fault hum hus huf) hus he

/-- While the stream is open no record says it is exhausted, so what is pending does not matter to the record. -/
theorem faultGenuine_of_open {s : State} (ho : s.input.closed = false) (hg : s.faultGenuine = true)
    (input : InputStream) : ({ s with input := input } : State).faultGenuine = true := by
  unfold State.faultGenuine at hg ⊢
  cases hf : s.fault with
  | none => rfl
  | some f =>
    cases f with
    | unimplementedOpcode op p => simpa [hf] using hg
    | inputExhausted a => simp [hf, ho] at hg

/-- Settles O56: input and closing need an open stream, where no record says the stream is exhausted. -/
theorem hostActionsKeepInv : Obligations.HostActionsKeepInv := by
  intro act s t ⟨hm, hfm, hg⟩ h
  rcases envStep_cases h with ⟨bs, ho, rfl⟩ | ⟨ho, rfl⟩ | ⟨n, rfl⟩
  · exact ⟨hm, hfm, faultGenuine_of_open ho hg _⟩
  · exact ⟨hm, hfm, faultGenuine_of_open ho hg _⟩
  · exact ⟨hm, hfm, hg⟩

theorem construct_inv {m : Memory} (hm : m.wf = true) (cfg : Config) (input : InputStream) :
    (State.construct cfg m input).Inv :=
  inv_of_no_fault hm (fun h => by cases h) rfl

theorem defaultCycleCost_length : defaultCycleCost.length = 256 := by
  simp only [defaultCycleCost, List.length_append, costRow0, costRow1, costRow2, costRow3, costRow4, costRow5,
    costRow6, costRow7, costRow8, costRow9, costRowA, costRowB, costRowC, costRowD, costRowE, costRowF,
    List.length_cons, List.length_nil]

/-- The default parameters meet every constraint of 00_scope.md R11. -/
theorem defaultConfig_admissible : defaultConfig.admissible = true := by
  have devices : defaultConfig.devicesDistinct = true := by decide
  have four : defaultConfig.aliasesFour = true := by decide
  have zero : defaultConfig.aliasesHoldZero = true := by decide
  have among : defaultConfig.aliasesAmongCandidates = true := by decide
  have costs : defaultConfig.costsEveryOpcode = true := beq_iff_eq.mpr defaultCycleCost_length
  simp only [Config.admissible, devices, four, zero, among, costs, Bool.and_self]

/-- Settles O10: a construction state over an empty list of cells. -/
theorem resetInv : Obligations.ResetInv :=
  ⟨construct_inv reset_mem_wf defaultConfig ⟨[], false⟩, defaultConfig_admissible⟩

end Sys2Proof.Machine
end

section
/-! PROOF. The state at launch (10_state.md R37), and the HL view (R23, R24). -/

namespace Sys2Proof

/-- Bits 15:8 of a word. -/
theorem highByte_toNat (v : Word) : (highByte v).toNat = v.toNat / 256 := by
  have := v.isLt
  simp [highByte, BitVec.extractLsb'_toNat, Nat.shiftRight_eq_div_pow]
  omega

/-- Bits 7:0 of a word. -/
theorem lowByte_toNat (v : Word) : (lowByte v).toNat = v.toNat % 256 := by
  simp [lowByte, BitVec.extractLsb'_toNat]

end Sys2Proof

namespace Sys2Proof.Machine

theorem getHL_toNat (s : State) : (getHL s).toNat = (getReg .h s).toNat * 256 + (getReg .l s).toNat :=
  joinBytes_toNat _ _

@[simp] theorem getReg_h_setHL (v : Word) (s : State) : getReg .h (setHL v s) = highByte v := rfl
@[simp] theorem getReg_l_setHL (v : Word) (s : State) : getReg .l (setHL v s) = lowByte v := rfl

/-- Settles O11: HL is `joinBytes` of the two halves, and a half is the quotient or remainder by 256. -/
theorem hlIsOneViewOfHAndL : Obligations.HLIsOneViewOfHAndL := by
  intro s v b
  have hl := (getReg .l s).isLt
  have hb := b.isLt
  refine ⟨getHL_toNat s, ?_, ?_, ?_, rfl, ?_, ?_⟩
  · exact joinBytes_high_low v
  · exact highByte_toNat v
  · exact lowByte_toNat v
  · rw [getHL_toNat, getHL_toNat, getReg_setReg_same, getReg_setReg_other (by decide)]; omega
  · rw [getHL_toNat, getHL_toNat, getReg_setReg_same, getReg_setReg_other (by decide)]; omega

/-- Settles O8: construction gives the registers, and the image load the buffer, byte by byte. -/
theorem launchState : Obligations.LaunchState := by
  intro cfg image rest input hlen hwf
  refine ⟨State.construct cfg (loadImage image rest) input, if_neg (by simpa [addressSpace] using hlen),
    fun r => by cases r <;> rfl, (by decide : joinBytes 0x00#8 0x00#8 = 0x0000#16),
    rfl, rfl, rfl, rfl, rfl, rfl, rfl, rfl, rfl, fun i hi => ?_, fun a ha => ?_⟩
  · have at_i := memRead_memWriteBytes_at hwf 0 image i hi (by simpa [addressSpace] using hlen)
    have hmod : i % 65536 = i := Nat.mod_eq_of_lt (by omega)
    simpa [readBuf, loadImage, State.construct, hmod] using at_i
  · exact memRead_memWriteBytes_other hwf 0 image (.inr (by omega))

end Sys2Proof.Machine
end

section
/-! PROOF. Simulation: a relation between states that every Bus read respects is respected by the fetch, and, where the
instructions respect it too, by the step. -/

namespace Sys2Proof.Machine

/-- Two answers of an action that reads through the Bus are alike: the same value, or the same fault, or both hold, and
the states they leave are related by `R`. -/
inductive BusResult.Alike (R : State → State → Prop) {α : Type} : BusResult α → BusResult α → Prop where
  | ok (v : α) {t t' : State} (h : R t t') : Alike R (.ok v t) (.ok v t')
  | hold : Alike R .hold .hold
  | raised (f : FaultRecord) {t t' : State} (h : R t t') : Alike R (.raised f t) (.raised f t')

/-- Every Bus read from related states answers alike. -/
def ReadsAlike (R : State → State → Prop) : Prop :=
  ∀ s s' a, R s s' → BusResult.Alike R (busRead s a) (busRead s' a)

section
variable {R : State → State → Prop} (hread : ReadsAlike R)
include hread

theorem busReads_alike (n : Nat) (a : Word) {s s' : State} (h : R s s') :
    BusResult.Alike R (busReads n a s) (busReads n a s') := by
  induction n generalizing a s s' with
  | zero => exact .ok [] h
  | succ n ih =>
    have first := hread s s' a h
    unfold busReads
    generalize busRead s a = r, busRead s' a = r' at first
    cases first with
    | hold => exact .hold
    | raised f hu => exact .raised f hu
    | @ok b u u' hu =>
      have rest := ih (a + 1) hu
      dsimp only
      generalize busReads n (a + 1) u = q, busReads n (a + 1) u' = q' at rest
      cases rest with
      | hold => exact .hold
      | raised f hv => exact .raised f hv
      | ok bs hv => exact .ok (b :: bs) hv

theorem readOperand_alike (n : Nat) (p : Word) {s s' : State} (h : R s s') :
    BusResult.Alike R (readOperand n p s) (readOperand n p s') := by
  have bytes := busReads_alike hread n (p + 1) h
  unfold readOperand
  generalize busReads n (p + 1) s = r, busReads n (p + 1) s' = r' at bytes
  cases bytes with
  | hold => exact .hold
  | raised f hu => exact .raised f hu
  | ok bs hu => exact .ok (operandOfBytes bs) hu

theorem fetchInstr_alike {s s' : State} (h : R s s') (hpc : s'.pc = s.pc) :
    BusResult.Alike R (fetchInstr s) (fetchInstr s') := by
  have opcode := hread s s' s.pc h
  unfold fetchInstr
  rw [hpc]
  generalize busRead s s.pc = r, busRead s' s.pc = r' at opcode
  cases opcode with
  | hold => exact .hold
  | raised f hu => exact .raised f hu
  | @ok op u u' hu =>
    have operand := readOperand_alike hread (operandCount op) s.pc hu
    dsimp only
    generalize readOperand (operandCount op) s.pc u = q, readOperand (operandCount op) s.pc u' = q' at operand
    cases operand with
    | hold => exact .hold
    | raised f hv => exact .raised f hv
    | ok o hv => exact .ok (decodeOpcode op o) hv

theorem readWaits_alike {s s' : State} (h : R s s') (a : Word) : readWaits s' a = readWaits s a := by
  rw [Bool.eq_iff_iff, ← busRead_hold, ← busRead_hold]
  have read := hread s s' a h
  generalize busRead s a = r, busRead s' a = r' at read
  cases read <;> simp

theorem execWaits_alike {s s' : State} (h : R s s') (i : Instr) : execWaits i s' = execWaits i s := by
  unfold execWaits
  split
  · exact readWaits_alike hread h _
  · rfl

/-- A step from related states is alike, where taking a fault and executing an instruction respect the relation. -/
theorem step_alike (hfault : ∀ f s s', R s s' → R (takeFault f s) (takeFault f s'))
    (hexec : ∀ i s s' t, R s s' → exec i s = .next t → ∃ t', exec i s' = .next t' ∧ R t t')
    {s s' t : State} (h : R s s') (hpc : s'.pc = s.pc) (hstatus : s'.status = s.status) (hstep : step s = .next t) :
    ∃ t', step s' = .next t' ∧ R t t' := by
  have fetch := fetchInstr_alike hread h hpc
  unfold step runStep at hstep ⊢
  rw [hstatus]
  cases hs : s.status with
  | halted => rw [hs] at hstep; cases hstep; exact ⟨s', rfl, h⟩
  | faulted => rw [hs] at hstep; cases hstep
  | running =>
    rw [hs] at hstep
    dsimp only at hstep ⊢
    generalize fetchInstr s = r, fetchInstr s' = r' at fetch hstep
    cases fetch with
    | hold => cases hstep; exact ⟨s', rfl, h⟩
    | raised f hu => cases hstep; exact ⟨_, rfl, hfault f _ _ hu⟩
    | @ok i u u' hu =>
      dsimp only at hstep ⊢
      rw [execWaits_alike hread hu i]
      cases hw : execWaits i u with
      | true => rw [hw] at hstep; cases hstep; exact ⟨s', rfl, h⟩
      | false =>
        rw [hw] at hstep
        exact hexec i u u' t hu hstep

end

end Sys2Proof.Machine
end

section
/-! PROOF. What no instruction reads is invisible (10_state.md R21, R26, R29, R31; 20_memory.md R60): agreement on the rest
of the state is respected by every operation of a step. -/

namespace Sys2Proof.Machine

/-- Two states agree on everything an instruction may read. It is `SameButUnread`, field by field
(`sameButUnread_iff`). -/
structure AgreeOnRead (s s' : State) : Prop where
  cfg : s'.cfg = s.cfg
  a : s'.regs.a = s.regs.a
  b : s'.regs.b = s.regs.b
  pc : s'.pc = s.pc
  status : s'.status = s.status
  fault : s'.fault = s.fault
  mem : s'.mem = s.mem
  input : s'.input = s.input
  draws : s'.draws = s.draws

theorem sameButUnread_iff {s s' : State} : SameButUnread s s' ↔ AgreeOnRead s s' := by
  constructor
  · intro h
    unfold SameButUnread at h
    constructor <;> rw [h]
  · intro h
    cases s'
    obtain ⟨rfl, ha, hb, rfl, rfl, rfl, rfl, rfl, rfl⟩ := h
    simp only at ha hb
    simp only [SameButUnread, ← ha, ← hb]

namespace AgreeOnRead

variable {s s' : State}

theorem busRead : ReadsAlike AgreeOnRead := by
  intro s s' a h
  rcases busRead_cases s a with ⟨ha, e⟩ | ⟨rfl, v, rest, hp, e⟩ | ⟨rfl, hp, hc, e⟩ | ⟨rfl, hp, hc, e⟩ <;> rw [e]
  · have e' : Machine.busRead s' a = .ok (readBuf s a) s' := by simp [Machine.busRead, readBuf, h.cfg, h.mem, ha]
    rw [e']
    exact .ok _ h
  · have e' : Machine.busRead s' s.cfg.inAddr = .ok v { s' with input := ⟨rest, s'.input.closed⟩ } :=
      h.cfg ▸ busRead_inAddr_cons (h.input ▸ hp)
    rw [e']
    exact .ok v { h with input := by simp [h.input] }
  · have e' : Machine.busRead s' s.cfg.inAddr = .hold := by simp [Machine.busRead, inputRead, h.cfg, h.input, hp, hc]
    rw [e']
    exact .hold
  · have e' : Machine.busRead s' s.cfg.inAddr = .raised (.inputExhausted s.cfg.inAddr) s' := by
      simp [Machine.busRead, inputRead, h.cfg, h.input, hp, hc]
    rw [e']
    exact .raised _ h

theorem takeFault (f : FaultRecord) (h : AgreeOnRead s s') :
    AgreeOnRead (Machine.takeFault f s) (Machine.takeFault f s') :=
  { h with status := rfl, fault := rfl }

theorem raiseUnimplemented (op : Byte) (h : AgreeOnRead s s') :
    AgreeOnRead (Machine.raiseUnimplemented op s) (Machine.raiseUnimplemented op s') := by
  rw [raiseUnimplemented_eq, raiseUnimplemented_eq, h.pc]
  exact h.takeFault _

theorem enterHalted (h : AgreeOnRead s s') : AgreeOnRead (Machine.enterHalted s) (Machine.enterHalted s') :=
  { h with status := rfl }

theorem setA {v v' : Byte} (hv : v' = v) (h : AgreeOnRead s s') :
    AgreeOnRead (setReg .a v s) (setReg .a v' s') :=
  { h with a := hv }

theorem setB {v v' : Byte} (hv : v' = v) (h : AgreeOnRead s s') :
    AgreeOnRead (setReg .b v s) (setReg .b v' s') :=
  { h with b := hv }

theorem busWrite (a : Word) {v v' : Byte} (hv : v' = v) (h : AgreeOnRead s s') :
    AgreeOnRead (Machine.busWrite a v s) (Machine.busWrite a v' s') where
  cfg := by simp [h.cfg]
  a := by simp [h.a]
  b := by simp [h.b]
  pc := by simp [h.pc]
  status := by simp [h.status]
  fault := by simp [h.fault]
  mem := by simp [h.cfg, h.mem, hv]
  input := by simp [h.input]
  draws := by simp [h.draws]

/-- The flags an addition writes are unread, and the free bits it draws are as many on both sides. -/
theorem setAddFlags {x x' y y' : Byte} (h : AgreeOnRead s s') :
    AgreeOnRead (Machine.setAddFlags x y s) (Machine.setAddFlags x' y' s') where
  cfg := by simp [h.cfg]
  a := by simp [h.a]
  b := by simp [h.b]
  pc := by simp [h.pc]
  status := by simp [h.status]
  fault := by simp [h.fault]
  mem := by simp [h.mem]
  input := by simp [h.input]
  draws := by simp [setAddFlags_draws, h.cfg, h.draws]

theorem addBToA (h : AgreeOnRead s s') : AgreeOnRead (Machine.addBToA s) (Machine.addBToA s') :=
  setA (by simp only [getReg, h.a, h.b]) h.setAddFlags

/-- A completed step respects agreement if its execute part does. -/
theorem completeStep {body : State → State} (hbody : ∀ {t t'}, AgreeOnRead t t' → AgreeOnRead (body t) (body t'))
    (op : Byte) (h : AgreeOnRead s s') :
    AgreeOnRead (Machine.completeStep op body s) (Machine.completeStep op body s') := by
  have advanced : AgreeOnRead (advancePc (sizeOfOpcode op) s) (advancePc (sizeOfOpcode op) s') :=
    { h with pc := by simp [h.pc] }
  exact { hbody advanced with }

/-- Every instruction respects agreement: each of its effects from one state is an effect from the other. -/
theorem exec {i : Instr} {t : State} (h : AgreeOnRead s s') (hexec : Machine.exec i s = .next t) :
    ∃ t', Machine.exec i s' = .next t' ∧ AgreeOnRead t t' := by
  simp only [exec_eq_next_iff] at hexec ⊢
  cases hexec with
  | waits hw => exact ⟨s', .waits (by rw [execWaits_alike busRead h, hw]), h⟩
  | unimplemented hr => exact ⟨_, .unimplemented (h.cfg ▸ hr), h.raiseUnimplemented _⟩
  | nop hr => exact ⟨_, .nop (h.cfg ▸ hr), completeStep id _ h⟩
  | sta a => exact ⟨_, .sta a s', completeStep (fun ht => ht.busWrite a ht.a) _ h⟩
  | movBA => exact ⟨_, .movBA s', completeStep (fun ht => ht.setB ht.a) _ h⟩
  | addB => exact ⟨_, .addB s', completeStep addBToA _ h⟩
  | hlt => exact ⟨_, .hlt s', (completeStep id _ h).enterHalted⟩
  | @exhausted a _ f hr =>
    have read := busRead s s' a h
    rw [hr] at read
    generalize hr' : Machine.busRead s' a = r' at read
    cases read with
    | raised _ hu => obtain ⟨rfl, _, _⟩ := busRead_raised hr'; exact ⟨_, .exhausted hr', hu.takeFault f⟩
  | @lda a _ u v hr =>
    have read := busRead s s' a h
    rw [hr] at read
    generalize hr' : Machine.busRead s' a = r' at read
    cases read with
    | ok _ hu => exact ⟨_, .lda hr', completeStep (setA rfl) _ hu⟩

end AgreeOnRead

/-- Settles O47: agreement on what is read is respected by every Bus read and every instruction, hence by a step. -/
theorem unreadStateInvisible : Obligations.UnreadStateInvisible := by
  intro s s' t h hstep
  simp only [sameButUnread_iff] at h ⊢
  exact step_alike AgreeOnRead.busRead (fun f _ _ h => h.takeFault f) (fun _ _ _ _ h => h.exec) h h.pc h.status hstep

end Sys2Proof.Machine
end

section
/-! PROOF. The Bus (20_memory.md R53 to R57): a read at `IN_ADDR` and elsewhere, a write at `OUT_ADDR` and elsewhere; and
LDA from `IN_ADDR` with nothing pending. -/

namespace Sys2Proof.Machine

theorem busRead_inAddr_open {s : State} (hp : s.input.pending = []) (ho : s.input.closed = false) :
    busRead s s.cfg.inAddr = .hold := by
  simp [busRead, inputRead, hp, ho]

theorem busRead_inAddr_closed {s : State} (hp : s.input.pending = []) (hc : s.input.closed = true) :
    busRead s s.cfg.inAddr = .raised (.inputExhausted s.cfg.inAddr) s := by
  simp [busRead, inputRead, hp, hc]

theorem busWrite_of_ne {s : State} {a : Word} (h : a ≠ s.cfg.outAddr) (v : Byte) : busWrite a v s = writeBuf a v s :=
  if_neg h

theorem busWrite_of_eq {s : State} {a : Word} (h : a = s.cfg.outAddr) (v : Byte) :
    busWrite a v s = { s with output := s.output ++ [v] } :=
  if_pos h

/-- Settles O12: the answers of `InputRead` (R54), by what is pending and whether the stream is open. -/
theorem busReadAtInput : Obligations.BusReadAtInput := fun _ =>
  ⟨fun _ _ hp => busRead_inAddr_cons hp,
    fun _ _ _ hp => ⟨_, busRead_inAddr_cons hp, busRead_inAddr_cons rfl⟩,
    busRead_inAddr_open, busRead_inAddr_closed⟩

/-- Settles O13: only `IN_ADDR` is intercepted by a read (R53). -/
theorem busReadElsewhere : Obligations.BusReadElsewhere := fun _ _ h => busRead_of_ne h

/-- Settles O14: the write goes to Out, and a buffer byte does not depend on Out. -/
theorem busWriteAtOutput : Obligations.BusWriteAtOutput := fun s v =>
  ⟨busWrite_of_eq rfl v, fun b => by rw [busWrite_of_eq rfl]; rfl⟩

/-- Settles O15: the write is `writeBuf`, whose law of a read after it is `readBuf_writeBuf`. -/
theorem busWriteElsewhere : Obligations.BusWriteElsewhere := by
  intro s a v ha hm
  rw [busWrite_of_ne ha]
  refine ⟨rfl, writeBuf_wf hm a v, ?_, fun b hb => ?_⟩
  · rw [readBuf_writeBuf hm, if_pos rfl]
  · rw [readBuf_writeBuf hm, if_neg hb]

/-- Settles O21: the data read of the LDA holds or raises, and `exec` follows it. -/
theorem ldaWaitsOrFaultsWithoutInput : Obligations.LdaWaitsOrFaultsWithoutInput := by
  refine fun s hp => ⟨fun ho => ?_, fun hc => ?_⟩
  · exact exec_of_waits (busRead_hold.mp (busRead_inAddr_open hp ho))
  · exact exec_eq_next_iff.mpr (.exhausted (busRead_inAddr_closed hp hc))

end Sys2Proof.Machine
end

section
/-! PROOF. The streams: what an instruction takes from the input (20_memory.md R54) and what it appends to the output
(R60, R62). -/

namespace Sys2Proof.Machine

/-- Settles O34: only an LDA reads through the Bus in its execute part, and a read takes a byte only at `IN_ADDR`. -/
theorem inputFrame : Obligations.InputFrame := by
  intro i s t h
  cases execEffect_of_exec h with
  | lda hr =>
    rcases busRead_ok hr with ⟨-, -, rfl⟩ | ⟨rfl, htk⟩
    · exact .inl (by simp)
    · exact .inr ⟨rfl, _, by simpa using htk.1, by simp [htk.frame]⟩
  | _ => exact .inl (by simp)

/-- An instruction leaves Out alone or appends A: only a store to `OUT_ADDR` appends. -/
theorem exec_output {i : Instr} {s t : State} (h : exec i s = .next t) :
    t.output = s.output ∨ t.output = s.output ++ [s.regs.a] := by
  cases execEffect_of_exec h with
  | sta a =>
    by_cases ha : a = s.cfg.outAddr
    · exact .inr (by simp [ha, getReg])
    · exact .inl (by simp [ha])
  | lda hr => obtain ⟨_, htk, -⟩ := busRead_ok_took hr; exact .inl (by simp [htk.frame])
  | _ => exact .inl (by simp)

/-- Settles O49: a fetch touches neither Out nor A, and an instruction appends A or nothing. -/
theorem outputOnlyGrows : Obligations.OutputOnlyGrows := by
  intro s t h
  rcases step_next_fetched h with rfl | ⟨_, u, htk, -, -, ⟨f, -, rfl⟩ | ⟨i, -, he⟩⟩
  · exact .inl rfl
  · exact .inl (by simp [htk.frame])
  · simpa [htk.frame] using exec_output he

end Sys2Proof.Machine
end

section
/-! PROOF. The instruction fetch at `IN_ADDR` (20_memory.md R73; 40_fetch_decode_execute.md R103 to R108), and the store
that the next fetch reads (20_memory.md R71). -/

namespace Sys2Proof.Machine

/-! ### A running step, by what its fetch answers -/

theorem step_of_fetch_hold {s : State} (hs : s.status = .running) (hf : fetchInstr s = .hold) : step s = .next s := by
  simp [step, runStep, hs, hf]

theorem step_of_fetch_raised {s t : State} {f : FaultRecord} (hs : s.status = .running)
    (hf : fetchInstr s = .raised f t) : step s = .next (takeFault f t) := by
  simp [step, runStep, hs, hf]

theorem step_of_fetch_ok {s t : State} {i : Instr} (hs : s.status = .running) (hf : fetchInstr s = .ok i t) :
    step s = if execWaits i t then .next s else exec i t := by
  simp [step, runStep, hs, hf]

/-- A fetch that takes no input: then a wait of `exec` is a wait of the step. -/
theorem step_of_fetch_same {s : State} {i : Instr} (hs : s.status = .running) (hf : fetchInstr s = .ok i s) :
    step s = exec i s := by
  rw [step_of_fetch_ok hs hf]
  split
  · next hw => exact (exec_of_waits hw).symm
  · rfl

/-! ### Bytes of the instruction at `IN_ADDR` -/

/-- The fetch reads the bytes that decode to `i`, where reading the operand of an opcode that takes none would change
nothing. -/
theorem fetchInstr_of_decode {s t u v : State} {op lo hi : Byte} {i : Instr} {more : List Byte}
    (hop : busRead s s.pc = .ok op t) (hlo : busRead t (s.pc + 1) = .ok lo u) (hhi : busRead u (s.pc + 2) = .ok hi v)
    (hn : operandCount op = 2 ∨ v = t) (hd : decode [op, lo, hi] = .instr i more) : fetchInstr s = .ok i v := by
  rcases decode_three hd with ⟨h0, rfl⟩ | ⟨h2, rfl⟩
  · obtain rfl : v = t := hn.resolve_left (by omega)
    exact fetchInstr_of_opcode hop h0
  · exact fetchInstr_of_address hop h2 hlo hhi

/-- Settles O37: of three consecutive addresses one is `IN_ADDR`, whose read takes the byte; the other two read the
buffer. -/
theorem stepFetchesFromInput : Obligations.StepFetchesFromInput := by
  intro s b rest more i hs hp
  have input : ∀ {a}, a = s.cfg.inAddr → busRead s a = .ok b { s with input := ⟨rest, s.input.closed⟩ } := by
    rintro _ rfl; exact busRead_inAddr_cons hp
  have h01 := word_add_one_ne s.pc
  have h02 := word_add_two_ne s.pc
  have h12 := word_add_one_ne_two s.pc
  refine ⟨fun ha hd => ?_, fun ha hn hd => ?_, fun ha hn hd => ?_⟩
  · exact step_of_fetch_ok hs (fetchInstr_of_decode (input ha) (busRead_of_ne (ha ▸ h01)) (busRead_of_ne (ha ▸ h02))
      (.inr rfl) hd)
  · exact step_of_fetch_ok hs (fetchInstr_of_decode (busRead_of_ne (ha ▸ h01.symm)) (input ha)
      (busRead_of_ne (ha ▸ h12.symm)) (.inl hn) hd)
  · exact step_of_fetch_ok hs (fetchInstr_of_decode (busRead_of_ne (ha ▸ h02.symm)) (busRead_of_ne (ha ▸ h12))
      (input ha) (.inl hn) hd)

/-- The first byte a fetch reads at `IN_ADDR`: the opcode, the low byte or the high byte. -/
theorem fetchReadsInput_cases {s : State} (h : s.fetchReadsInput = true) :
    s.pc = s.cfg.inAddr ∨
    (s.pc ≠ s.cfg.inAddr ∧ operandCount (readBuf s s.pc) = 2 ∧ s.pc + 1 = s.cfg.inAddr) ∨
    (s.pc ≠ s.cfg.inAddr ∧ operandCount (readBuf s s.pc) = 2 ∧ s.pc + 1 ≠ s.cfg.inAddr ∧ s.pc + 2 = s.cfg.inAddr) := by
  simp only [State.fetchReadsInput, Bool.or_eq_true, Bool.and_eq_true, beq_iff_eq] at h
  tauto

/-- A fetch that reads at `IN_ADDR` stops as the read there stops: the reads before it are of the buffer. -/
theorem fetchInstr_stops_at_inAddr {s : State} (h : s.fetchReadsInput = true) :
    (busRead s s.cfg.inAddr = .hold → fetchInstr s = .hold) ∧
    ∀ f, busRead s s.cfg.inAddr = .raised f s → fetchInstr s = .raised f s := by
  rcases fetchReadsInput_cases h with ha | ⟨h0, hn, ha⟩ | ⟨h0, hn, h1, ha⟩ <;> rw [← ha]
  · exact ⟨fetchInstr_hold_opcode, fun _ => fetchInstr_raised_opcode⟩
  · exact ⟨fetchInstr_hold_low (busRead_of_ne h0) hn, fun _ => fetchInstr_raised_low (busRead_of_ne h0) hn⟩
  · exact ⟨fetchInstr_hold_high (busRead_of_ne h0) hn (busRead_of_ne h1),
      fun _ => fetchInstr_raised_high (busRead_of_ne h0) hn (busRead_of_ne h1)⟩

/-- Settles O38: the fetch stops as the read at `IN_ADDR` does, and the step follows it. -/
theorem fetchWithoutInput : Obligations.FetchWithoutInput := by
  intro s hs hr hp
  obtain ⟨hold, raised⟩ := fetchInstr_stops_at_inAddr hr
  exact ⟨fun ho => step_of_fetch_hold hs (hold (busRead_inAddr_open hp ho)),
    fun hc => step_of_fetch_raised hs (raised _ (busRead_inAddr_closed hp hc))⟩

/-! ### A fetch from the buffer -/

/-- An opcode without a rule takes no operand byte (40_fetch_decode_execute.md R106). -/
theorem operandCount_of_unimplemented {cfg : Config} {op : Byte} (h : ruleOf cfg op = .unimplemented) :
    operandCount op = 0 := by
  rw [operandCount_eq, if_neg]
  rintro (rfl | rfl) <;> simp at h

/-- An opcode without operand bytes, in the buffer: the step is that of the instruction it decodes to. -/
theorem step_of_buffer_opcode {s : State} (hs : s.status = .running) (hpc : s.pc ≠ s.cfg.inAddr)
    (hn : operandCount (readBuf s s.pc) = 0) : step s = exec (decodeOpcode (readBuf s s.pc) .none) s :=
  step_of_fetch_same hs (fetchInstr_of_opcode (busRead_of_ne hpc) hn)

/-- An opcode without a rule, in the buffer: the step takes its fault. -/
theorem step_of_buffer_unimplemented {s : State} (hs : s.status = .running) (hpc : s.pc ≠ s.cfg.inAddr)
    (hr : ruleOf s.cfg (readBuf s s.pc) = .unimplemented) :
    step s = .next (raiseUnimplemented (readBuf s s.pc) s) := by
  have hi := opcodeOf_decodeOpcode (readBuf s s.pc) .none
  rw [step_of_buffer_opcode hs hpc (operandCount_of_unimplemented hr), exec_of_rule_unimplemented (by rw [hi, hr]), hi]

/-- The opcode of STA in the buffer, with its operand: the step is that of the STA. -/
theorem step_of_buffer_sta {s : State} (hs : s.status = .running) (hr : s.fetchReadsInput = false)
    (hop : readBuf s s.pc = 0x32#8) :
    step s = exec (.sta (joinBytes (readBuf s (s.pc + 2)) (readBuf s (s.pc + 1)))) s := by
  have hn : operandCount 0x32#8 = 2 := by decide
  simp only [State.fetchReadsInput, hop, hn, Bool.or_eq_false_iff, beq_eq_false_iff_ne, beq_self_eq_true,
    Bool.true_and] at hr
  obtain ⟨h0, h1, h2⟩ := hr
  exact step_of_fetch_same hs
    (fetchInstr_of_address (hop ▸ busRead_of_ne h0) hn (busRead_of_ne h1) (busRead_of_ne h2))

/-- STA to an address other than `OUT_ADDR` writes A to the buffer (42_data_transfer.md R145). -/
theorem exec_sta_buffer {s : State} {a : Word} (h : a ≠ s.cfg.outAddr) :
    exec (.sta a) s = .next (addCycles 0x32#8 (writeBuf a s.regs.a (advancePc 3 s))) := by
  rw [← busWrite_of_ne (s := advancePc 3 s) h, ← sizeOfOpcode_sta]
  rfl

/-- Settles O53: the store leaves A at the next pc, where the next fetch reads it as an opcode. -/
theorem storeToNextOpcodeIsFetched : Obligations.StoreToNextOpcodeIsFetched := by
  intro s hs hm hr hop ha hin hout
  have hstep := step_of_buffer_sta hs hr hop
  rw [ha, exec_sta_buffer hout] at hstep
  refine ⟨_, hstep, ?_⟩
  generalize ht : addCycles 0x32#8 (writeBuf (s.pc + 3) s.regs.a (advancePc 3 s)) = t
  have hrun : t.status = .running := by simpa [← ht] using hs
  have hpc : t.pc = s.pc + 3 := by simp [← ht]
  have hcfg : t.cfg = s.cfg := by simp [← ht]
  have hcell : readBuf t t.pc = s.regs.a := by
    rw [hpc, ← ht]
    exact (readBuf_writeBuf (s := advancePc 3 s) hm _ _ _).trans (if_pos rfl)
  have hpc_in : t.pc ≠ t.cfg.inAddr := by rwa [hpc, hcfg]
  refine ⟨hrun, hpc, hcell, fun hlt => ?_, fun hun => ?_⟩
  · rw [step_of_buffer_opcode hrun hpc_in (by rw [hcell, hlt]; decide), hcell, hlt]
    rfl
  · have hfault := step_of_buffer_unimplemented hrun hpc_in (by rw [hcell, hcfg, hun])
    rw [hcell, raiseUnimplemented_eq, hpc] at hfault
    exact hfault

end Sys2Proof.Machine
end

section
/-! PROOF. The buffer cell at `IN_ADDR` is invisible (20_memory.md R57, R73): agreement on everything else is respected by
every Bus read, every Bus write and every operation that does not touch the buffer, hence by a step. -/

namespace Sys2Proof.Machine

/-! ### An answer alike to a given one -/

theorem BusResult.Alike.ok_left {R : State → State → Prop} {α : Type} {v : α} {t : State} {r : BusResult α}
    (h : BusResult.Alike R (.ok v t) r) : ∃ t', r = .ok v t' ∧ R t t' := by
  cases h with | ok _ ht => exact ⟨_, rfl, ht⟩

theorem BusResult.Alike.raised_left {R : State → State → Prop} {α : Type} {f : FaultRecord} {t : State}
    {r : BusResult α} (h : BusResult.Alike R (.raised f t) r) : ∃ t', r = .raised f t' ∧ R t t' := by
  cases h with | raised _ ht => exact ⟨_, rfl, ht⟩

/-! ### Agreement on everything but the cell -/

/-- Two states with buffers in canonical form that differ at most in the buffer cell at `IN_ADDR`. -/
structure AgreeButInputCell (s s' : State) : Prop where
  same : SameButInputCell s s'
  wf : s.mem.wf = true
  wf' : s'.mem.wf = true

/-- An operation neither reads nor writes the buffer, nor writes the parameters. -/
structure BufferBlind (f : State → State) : Prop where
  mem : ∀ s m, f { s with mem := m } = { f s with mem := m }
  cfg : ∀ s, (f s).cfg = s.cfg

theorem BufferBlind.keeps_mem {f : State → State} (hf : BufferBlind f) (s : State) : (f s).mem = s.mem :=
  (congrArg State.mem (hf.mem s s.mem) :)

theorem addBToA_bufferBlind : BufferBlind addBToA where
  mem s m := by cases h : s.cfg.flagPolicy <;> simp [addBToA, setAddFlags, setAuxParity, setReg, getReg, h]
  cfg := addBToA_cfg

namespace AgreeButInputCell

variable {s s' : State}

theorem eq_with_mem (h : AgreeButInputCell s s') : s' = { s with mem := s'.mem } := h.same.1

theorem cfg (h : AgreeButInputCell s s') : s'.cfg = s.cfg := by rw [h.eq_with_mem]

theorem a (h : AgreeButInputCell s s') : s'.regs.a = s.regs.a := by rw [h.eq_with_mem]

theorem pc (h : AgreeButInputCell s s') : s'.pc = s.pc := by rw [h.eq_with_mem]

theorem status (h : AgreeButInputCell s s') : s'.status = s.status := by rw [h.eq_with_mem]

theorem fault (h : AgreeButInputCell s s') : s'.fault = s.fault := by rw [h.eq_with_mem]

theorem input (h : AgreeButInputCell s s') : s'.input = s.input := by rw [h.eq_with_mem]

theorem readBuf (h : AgreeButInputCell s s') {a : Word} (ha : a ≠ s.cfg.inAddr) :
    Machine.readBuf s' a = Machine.readBuf s a :=
  h.same.2 a ha

/-- Agreement passes through an operation that does not touch the buffer; for most operations that is so by `rfl`. -/
theorem map (h : AgreeButInputCell s s') (f : State → State)
    (hf : BufferBlind f := by exact ⟨fun _ _ => rfl, fun _ => rfl⟩) : AgreeButInputCell (f s) (f s') where
  same := by
    refine ⟨?_, fun a ha => ?_⟩
    · rw [hf.keeps_mem s', ← hf.mem, ← h.eq_with_mem]
    · simp only [Machine.readBuf, hf.keeps_mem]
      exact h.readBuf (hf.cfg s ▸ ha)
  wf := by rw [hf.keeps_mem]; exact h.wf
  wf' := by rw [hf.keeps_mem]; exact h.wf'

/-- The only read that could see the cell is at `IN_ADDR`, and it reads the input stream. -/
theorem busRead : ReadsAlike AgreeButInputCell := by
  intro s s' a h
  rcases busRead_cases s a with ⟨ha, e⟩ | ⟨rfl, v, rest, hp, e⟩ | ⟨rfl, hp, ho, e⟩ | ⟨rfl, hp, hc, e⟩ <;> rw [e]
  · rw [busRead_of_ne (h.cfg.symm ▸ ha), h.readBuf ha]
    exact .ok _ h
  · have e' : Machine.busRead s' s.cfg.inAddr = .ok v { s' with input := ⟨rest, s'.input.closed⟩ } :=
      h.cfg ▸ busRead_inAddr_cons (h.input.symm ▸ hp)
    rw [e']
    exact .ok v (h.map fun u => { u with input := ⟨rest, u.input.closed⟩ })
  · rw [← h.cfg, busRead_inAddr_open (h.input.symm ▸ hp) (h.input.symm ▸ ho)]
    exact .hold
  · rw [← h.cfg, busRead_inAddr_closed (h.input.symm ▸ hp) (h.input.symm ▸ hc)]
    exact .raised _ h

theorem writeBuf (a : Word) (v : Byte) (h : AgreeButInputCell s s') :
    AgreeButInputCell (Machine.writeBuf a v s) (Machine.writeBuf a v s') where
  same := by
    refine ⟨congrArg (Machine.writeBuf a v ·) h.eq_with_mem, fun b hb => ?_⟩
    rw [readBuf_writeBuf h.wf, readBuf_writeBuf h.wf', h.readBuf hb]
  wf := writeBuf_wf h.wf a v
  wf' := writeBuf_wf h.wf' a v

/-- A write writes the same cell of both buffers, or appends to both outputs. -/
theorem busWrite (a : Word) (v : Byte) (h : AgreeButInputCell s s') :
    AgreeButInputCell (Machine.busWrite a v s) (Machine.busWrite a v s') := by
  by_cases ha : a = s.cfg.outAddr
  · rw [busWrite_of_eq ha, busWrite_of_eq (h.cfg.symm ▸ ha)]
    exact h.map fun t => { t with output := t.output ++ [v] }
  · rw [busWrite_of_ne ha, busWrite_of_ne (h.cfg.symm ▸ ha)]
    exact h.writeBuf a v

/-- A completed step respects agreement if its execute part does. -/
theorem completeStep {body : State → State}
    (hbody : ∀ {t t'}, AgreeButInputCell t t' → AgreeButInputCell (body t) (body t')) (op : Byte)
    (h : AgreeButInputCell s s') :
    AgreeButInputCell (Machine.completeStep op body s) (Machine.completeStep op body s') :=
  (hbody (h.map (advancePc (sizeOfOpcode op)))).map (addCycles op)

/-- Every instruction respects agreement: each of its effects from one state is an effect from the other. -/
theorem exec {i : Instr} {t : State} (h : AgreeButInputCell s s') (hexec : Machine.exec i s = .next t) :
    ∃ t', Machine.exec i s' = .next t' ∧ AgreeButInputCell t t' := by
  simp only [exec_eq_next_iff] at hexec ⊢
  cases hexec with
  | waits hw => exact ⟨s', .waits (by rw [execWaits_alike busRead h, hw]), h⟩
  | unimplemented hr => exact ⟨_, .unimplemented (h.cfg ▸ hr), h.map (raiseUnimplemented _)⟩
  | nop hr => exact ⟨_, .nop (h.cfg ▸ hr), h.completeStep id _⟩
  | sta a => exact ⟨_, .sta a s', h.completeStep (fun ht => by simpa [getReg, ht.a] using ht.busWrite a _) _⟩
  | movBA => exact ⟨_, .movBA s', h.completeStep (·.map fun t => setReg .b (getReg .a t) t) _⟩
  | addB => exact ⟨_, .addB s', h.completeStep (·.map addBToA addBToA_bufferBlind) _⟩
  | hlt => exact ⟨_, .hlt s', (h.completeStep id _).map enterHalted⟩
  | @exhausted a _ f hr =>
    obtain ⟨u', hr', hu⟩ := (hr ▸ busRead s s' a h).raised_left
    obtain ⟨rfl, -, -⟩ := busRead_raised hr'
    exact ⟨_, .exhausted hr', hu.map (takeFault f)⟩
  | @lda a _ u v hr =>
    obtain ⟨u', hr', hu⟩ := (hr ▸ busRead s s' a h).ok_left
    exact ⟨_, .lda hr', hu.completeStep (·.map (setReg .a v)) _⟩

end AgreeButInputCell

/-- A step stops only in a Faulted state (40_fetch_decode_execute.md R119). -/
theorem step_fault_status {s : State} {f : Fault} (h : step s = .fault f) : s.status = .faulted := by
  by_contra hs
  obtain ⟨t, ht⟩ := step_answers_next hs
  rw [h] at ht
  cases ht

/-- Settles O46: agreement on everything but the cell is respected by every Bus read and every instruction, hence by a
step; whether there is a step depends on the status and the record only. -/
theorem inputCellNeverRead : Obligations.InputCellNeverRead := by
  intro s s' hm hm' hsame
  have h : AgreeButInputCell s s' := ⟨hsame, hm, hm'⟩
  refine ⟨fun t ht => ?_, fun f hf => ?_⟩
  · obtain ⟨t', ht', agree⟩ := step_alike AgreeButInputCell.busRead (fun f _ _ h => h.map (takeFault f))
      (fun _ _ _ _ h => h.exec) h h.pc h.status ht
    exact ⟨t', ht', agree.same⟩
  · have hs := step_fault_status hf
    rw [step_faulted hs] at hf
    rw [step_faulted (h.status.trans hs), h.fault, hf]

end Sys2Proof.Machine
end

section
/-! PROOF. The decoder and the encoder (30_encoding.md R80 to R95): one characterisation of what the decoder answers,
`decode_eq_instr_iff`, from which the statements about bytes follow; then which opcodes have an execution rule. -/

namespace Sys2Proof

/-! ### What an instruction's bytes are -/

/-- An instruction has as many operand bytes as the decoder takes after its opcode. -/
theorem operandBytesOf_length (i : Instr) : (operandBytesOf i).length = operandCount (opcodeOf i) := by
  cases i <;> rfl

/-- An instruction is the cell of its opcode, with the operand its operand bytes assemble to. -/
theorem decodeOpcode_opcodeOf (i : Instr) : decodeOpcode (opcodeOf i) (operandOfBytes (operandBytesOf i)) = i := by
  cases i
  case sta a => exact congrArg Instr.sta (joinBytes_high_low a)
  case lda a => exact congrArg Instr.lda (joinBytes_high_low a)
  all_goals rfl

/-- An opcode without operand bytes belongs to one instruction. -/
theorem eq_decodeOpcode_of_no_operand {i : Instr} (h : operandCount (opcodeOf i) = 0) :
    i = decodeOpcode (opcodeOf i) .none := by
  have hnil : operandBytesOf i = [] := List.eq_nil_of_length_eq_zero ((operandBytesOf_length i).trans h)
  have hi := decodeOpcode_opcodeOf i
  rw [hnil] at hi
  exact hi.symm

/-- The operand bytes an instruction was decoded from are its operand bytes. -/
theorem operandBytesOf_decodeOpcode {op : Byte} {operand : List Byte} (h : operand.length = operandCount op) :
    operandBytesOf (decodeOpcode op (operandOfBytes operand)) = operand := by
  by_cases hop : op = 0x32#8 ∨ op = 0x3A#8
  · rw [operandCount_eq, if_pos hop] at h
    obtain ⟨lo, hi, rfl⟩ := List.length_eq_two.mp h
    have bytes : [lowByte (joinBytes hi lo), highByte (joinBytes hi lo)] = [lo, hi] := by simp
    rcases hop with rfl | rfl <;> exact bytes
  · have hn : operandCount op = 0 := by rw [operandCount_eq, if_neg hop]
    obtain rfl : operand = [] := List.eq_nil_of_length_eq_zero (h.trans hn)
    exact List.eq_nil_of_length_eq_zero (by rw [operandBytesOf_length, opcodeOf_decodeOpcode, hn])

/-! ### What the decoder answers -/

/-- The decoder answers an instruction exactly when the bytes are an opcode, as many operand bytes as it takes, and the
rest (R84, R94). -/
theorem decode_eq_instr_iff {bytes rest : List Byte} {i : Instr} :
    decode bytes = .instr i rest ↔
      ∃ op operand, bytes = op :: (operand ++ rest) ∧ operand.length = operandCount op ∧
        i = decodeOpcode op (operandOfBytes operand) := by
  constructor
  · intro h
    cases bytes with
    | nil => cases h
    | cons op more =>
      simp only [decode] at h
      split at h
      · cases h
      · next hlen =>
        cases h
        exact ⟨op, more.take (operandCount op), by rw [List.take_append_drop],
          List.length_take_of_le (Nat.le_of_not_lt hlen), rfl⟩
  · rintro ⟨op, operand, rfl, hlen, rfl⟩
    simp [decode, ← hlen]

theorem decode_of_no_operand {op : Byte} (h : operandCount op = 0) (rest : List Byte) :
    decode (op :: rest) = .instr (decodeOpcode op .none) rest :=
  decode_eq_instr_iff.mpr ⟨op, [], rfl, h.symm, rfl⟩

theorem decode_of_address {op : Byte} (h : operandCount op = 2) (lo hi : Byte) (rest : List Byte) :
    decode (op :: lo :: hi :: rest) = .instr (decodeOpcode op (.addr16 (joinBytes hi lo))) rest :=
  decode_eq_instr_iff.mpr ⟨op, [lo, hi], rfl, h.symm, rfl⟩

/-- Settles O1: the encoding is the opcode and as many operand bytes as the decoder takes, and its cell with them is the
instruction. -/
theorem decodeOfEncode : Obligations.DecodeOfEncode := fun i _ =>
  decode_eq_instr_iff.mpr
    ⟨opcodeOf i, operandBytesOf i, rfl, operandBytesOf_length i, (decodeOpcode_opcodeOf i).symm⟩

/-- Settles O2: opcode and operand bytes can both be read off the decoded instruction. -/
theorem encodeOfDecode : Obligations.EncodeOfDecode := by
  intro bytes rest i h
  obtain ⟨op, operand, rfl, hlen, rfl⟩ := decode_eq_instr_iff.mp h
  rw [encode, opcodeOf_decodeOpcode, operandBytesOf_decodeOpcode hlen, List.cons_append]

/-- Settles O3: an opcode takes no operand byte or two, and its cell is an instruction with that opcode. -/
theorem decodeIsTotal : Obligations.DecodeIsTotal := by
  intro op lo hi tail
  rcases Machine.operandCount_zero_or_two op with h0 | h2
  · exact ⟨_, _, decode_of_no_operand h0 _, opcodeOf_decodeOpcode .., .inr rfl⟩
  · exact ⟨_, _, decode_of_address h2 lo hi tail, opcodeOf_decodeOpcode .., .inl rfl⟩

/-- Settles O4: both opcodes take two operand bytes, joined to the address. -/
theorem addressOperandIsLittleEndian : Obligations.AddressOperandIsLittleEndian := fun lo hi rest =>
  ⟨joinBytes hi lo, joinBytes_toNat hi lo, decode_of_address (by decide) lo hi rest,
    decode_of_address (by decide) lo hi rest⟩

/-- Settles O5: each word is the encoding of its instruction, written out, and the bytes that follow. -/
theorem specWordsDecode : Obligations.SpecWordsDecode :=
  ⟨decodeOfEncode .nop [], decodeOfEncode (.lda 0x0010#16) [], decodeOfEncode (.sta 0x1234#16) [],
    decodeOfEncode .movBA [], decodeOfEncode .addB [], decodeOfEncode .hlt [0x99#8], decodeOfEncode .nop38 [],
    decodeOfEncode .jmpA16 [0x00#8, 0x01#8], decodeOfEncode .addC [], decodeOfEncode .inD8 [0xFE#8], rfl, rfl⟩

/-! ### Which opcodes have an execution rule -/

/-- The opcodes of LDA, STA, MOV B,A, ADD B and HLT: those with a rule of their own, which is not NOP's (R89). -/
def ownRuleOpcodes : List Byte := [0x3A#8, 0x32#8, 0x47#8, 0x80#8, 0x76#8]

/-- The instructions of the candidates other than 0x00 (R90). -/
def nopAliasInstrs : List Instr := [.nop08, .nop10, .nop18, .nop20, .nop28, .nop30, .nop38]

theorem not_mem_nopCandidates_of_ownRule : ∀ op ∈ ownRuleOpcodes, op ∉ nopCandidates := by decide

theorem baseRuleOf_eq_nop_iff (op : Byte) : baseRuleOf op = .nop ↔ op ∈ nopCandidates := by
  revert op; decide

theorem baseRuleOf_eq_unimplemented_iff (op : Byte) :
    baseRuleOf op = .unimplemented ↔ op ∉ ownRuleOpcodes ∧ op ∉ nopCandidates := by
  revert op; decide

/-- An opcode has an execution rule exactly when the rule is its own, or it is a candidate that is 0x00 or in
`NOP_ALIASES` (R89 to R91). -/
theorem ruleOf_ne_unimplemented_iff (cfg : Config) (op : Byte) :
    ruleOf cfg op ≠ .unimplemented ↔
      op ∈ ownRuleOpcodes ∨ (op ∈ nopCandidates ∧ (op = 0x00#8 ∨ op ∈ cfg.nopAliases)) := by
  by_cases hc : op ∈ nopCandidates
  · have hnop : baseRuleOf op = .nop := (baseRuleOf_eq_nop_iff op).mpr hc
    have hown : op ∉ ownRuleOpcodes := fun ho => not_mem_nopCandidates_of_ownRule op ho hc
    simp [ruleOf, hnop, hc, hown, or_iff_not_imp_left]
  · have hnop : baseRuleOf op ≠ .nop := mt (baseRuleOf_eq_nop_iff op).mp hc
    simp [Machine.ruleOf_of_ne_nop hnop, baseRuleOf_eq_unimplemented_iff, hc]

theorem opcodeOf_eq_zero_iff (i : Instr) : opcodeOf i = 0x00#8 ↔ i = .nop := by
  refine ⟨fun h => ?_, fun h => h ▸ rfl⟩
  have hn : operandCount (opcodeOf i) = 0 := by rw [h]; decide
  rw [eq_decodeOpcode_of_no_operand hn, h]
  rfl

theorem opcodeOf_mem_nopCandidates_iff (i : Instr) :
    opcodeOf i ∈ nopCandidates ↔ i = .nop ∨ i ∈ nopAliasInstrs := by
  have cells : ∀ op ∈ nopCandidates, operandCount op = 0 ∧ decodeOpcode op .none ∈ .nop :: nopAliasInstrs := by decide
  have opcodes : ∀ i ∈ Instr.nop :: nopAliasInstrs, opcodeOf i ∈ nopCandidates := by decide
  rw [← List.mem_cons]
  refine ⟨fun h => ?_, opcodes i⟩
  obtain ⟨hn, hcell⟩ := cells _ h
  rwa [eq_decodeOpcode_of_no_operand hn]

theorem opcodeOf_mem_ownRuleOpcodes_iff (i : Instr) :
    opcodeOf i ∈ ownRuleOpcodes ↔
      (∃ a, i = .lda a) ∨ (∃ a, i = .sta a) ∨ i = .movBA ∨ i = .addB ∨ i = .hlt := by
  constructor
  · intro h
    have hi := (decodeOpcode_opcodeOf i).symm
    simp only [ownRuleOpcodes, List.mem_cons, List.not_mem_nil, or_false] at h
    rcases h with h | h | h | h | h <;> rw [h] at hi
    · exact .inl ⟨_, hi⟩
    · exact .inr (.inl ⟨_, hi⟩)
    · exact .inr (.inr (.inl hi))
    · exact .inr (.inr (.inr (.inl hi)))
    · exact .inr (.inr (.inr (.inr hi)))
  · rintro (⟨a, rfl⟩ | ⟨a, rfl⟩ | rfl | rfl | rfl) <;> simp [ownRuleOpcodes, opcodeOf]

/-- Settles O6: the opcodes that have a rule, read as instructions. -/
theorem admittedInstructions : Obligations.AdmittedInstructions := by
  intro cfg i
  change _ ↔ _ ∨ _ ∨ _ ∨ _ ∨ _ ∨ _ ∨ (i ∈ nopAliasInstrs ∧ _)
  rw [Instr.admitted, bne_iff_ne, ruleOf_ne_unimplemented_iff, opcodeOf_mem_ownRuleOpcodes_iff,
    opcodeOf_mem_nopCandidates_iff, opcodeOf_eq_zero_iff]
  tauto

/-! ### How many opcodes have none -/

/-- A list in strictly rising order has no byte twice. -/
theorem nodup_of_bytesRising {l : List Byte} (h : bytesRising l = true) : l.Nodup := by
  have chain : l.IsChain (· < ·) := by
    induction l with
    | nil => exact .nil
    | cons a l ih =>
      cases l with
      | nil => exact .singleton a
      | cons b l =>
        simp only [bytesRising, Bool.and_eq_true, decide_eq_true_eq] at h
        exact .cons_cons h.1 (ih h.2)
  exact chain.pairwise.imp BitVec.ne_of_lt

/-- The 256 bytes, in order. -/
def allBytes : List Byte := (List.range 256).map (BitVec.ofNat 8)

theorem mem_allBytes (b : Byte) : b ∈ allBytes :=
  List.mem_map.mpr ⟨b.toNat, List.mem_range.mpr b.isLt, by simp⟩

theorem allBytes_nodup : allBytes.Nodup := by
  refine List.Nodup.map_on (fun m hm n hn h => ?_) List.nodup_range
  rw [List.mem_range] at hm hn
  simpa [Nat.mod_eq_of_lt hm, Nat.mod_eq_of_lt hn] using congrArg BitVec.toNat h

/-- The bytes outside a list without repetition are 256 less its length. -/
theorem length_filter_not_mem {l : List Byte} (h : l.Nodup) :
    (allBytes.filter (· ∉ l)).length + l.length = 256 := by
  have inside : (allBytes.filter (· ∈ l)).Perm l :=
    (List.perm_ext_iff_of_nodup (allBytes_nodup.filter _) h).mpr fun b => by simp [mem_allBytes]
  have total : allBytes.length = 256 := by simp [allBytes]
  have parts := List.length_eq_length_filter_add (l := allBytes) (· ∈ l)
  rw [total, inside.length_eq] at parts
  simp only [decide_not]
  omega

/-- What admissible parameters say about `NOP_ALIASES` (00_scope.md R11). -/
theorem nopAliases_of_admissible {cfg : Config} (h : cfg.admissible = true) :
    cfg.nopAliases.length = 4 ∧ cfg.nopAliases.Nodup ∧ 0x00#8 ∈ cfg.nopAliases ∧
      ∀ op ∈ cfg.nopAliases, op ∈ nopCandidates := by
  simp only [Config.admissible, Config.aliasesFour, Config.aliasesHoldZero, Config.aliasesAmongCandidates,
    Bool.and_eq_true, beq_iff_eq, List.contains_iff_mem, List.all_eq_true] at h
  obtain ⟨⟨⟨⟨-, hlen, hrise⟩, h0⟩, hsub⟩, -⟩ := h
  exact ⟨hlen, nodup_of_bytesRising hrise, h0, hsub⟩

/-- The opcodes with a rule, under admissible parameters (`ruleOf_eq_unimplemented_iff`). -/
def implementedOpcodes (cfg : Config) : List Byte := ownRuleOpcodes ++ cfg.nopAliases

theorem ruleOf_eq_unimplemented_iff {cfg : Config} (h : cfg.admissible = true) (op : Byte) :
    ruleOf cfg op = .unimplemented ↔ op ∉ implementedOpcodes cfg := by
  obtain ⟨-, -, h0, hsub⟩ := nopAliases_of_admissible h
  have zero : op = 0x00#8 → op ∈ cfg.nopAliases := fun e => e ▸ h0
  have cand := hsub op
  rw [← not_iff_not, ← ne_eq, ruleOf_ne_unimplemented_iff, not_not, implementedOpcodes, List.mem_append]
  tauto

theorem implementedOpcodes_nodup {cfg : Config} (h : cfg.admissible = true) : (implementedOpcodes cfg).Nodup := by
  obtain ⟨-, hnodup, -, hsub⟩ := nopAliases_of_admissible h
  exact List.nodup_append'.mpr
    ⟨by decide, hnodup, fun op ho ha => not_mem_nopCandidates_of_ownRule op ho (hsub op ha)⟩

theorem implementedOpcodes_length {cfg : Config} (h : cfg.admissible = true) :
    (implementedOpcodes cfg).length = 9 := by
  obtain ⟨hlen, -⟩ := nopAliases_of_admissible h
  simp [implementedOpcodes, ownRuleOpcodes, hlen]

/-- Settles O7: the opcodes without a rule are the bytes outside the nine that have one. -/
theorem unimplementedOpcodeCount : Obligations.UnimplementedOpcodeCount := by
  intro cfg h
  have count := length_filter_not_mem (implementedOpcodes_nodup h)
  rw [allBytes, List.filter_map, List.length_map, implementedOpcodes_length h] at count
  have same : ∀ n, (ruleOf cfg (BitVec.ofNat 8 n) == .unimplemented) =
      decide (BitVec.ofNat 8 n ∉ implementedOpcodes cfg) := fun n => by
    rw [Bool.eq_iff_iff, beq_iff_eq, decide_eq_true_iff, ruleOf_eq_unimplemented_iff h]
  simp only [same]
  exact Nat.add_right_cancel count

end Sys2Proof
end

section
/-! PROOF. Input that the host appends later (20_memory.md R58): a read that finds its byte, the fetch, and every
instruction that does not wait commute with the appending, so only a hold can tell when the bytes came. -/

namespace Sys2Proof.Machine

/-! ### Reads that are answered -/

section
variable (bs : List Byte)

theorem busRead_appendInput {s t : State} {a : Word} {v : Byte} (h : busRead s a = .ok v t) :
    busRead (appendInput bs s) a = .ok v (appendInput bs t) := by
  rcases busRead_cases s a with ⟨ha, e⟩ | ⟨rfl, b, rest, hp, e⟩ | ⟨_, _, _, e⟩ | ⟨_, _, _, e⟩ <;> rw [e] at h <;> cases h
  · exact busRead_of_ne ha
  · exact busRead_inAddr_cons (s := appendInput bs s) (by rw [appendInput_input, hp, List.cons_append])

theorem busReads_appendInput {n : Nat} {a : Word} {s t : State} {vs : List Byte} (h : busReads n a s = .ok vs t) :
    busReads n a (appendInput bs s) = .ok vs (appendInput bs t) := by
  induction n generalizing a s vs with
  | zero => cases h; rfl
  | succ n ih =>
    unfold busReads at h ⊢
    cases hr : busRead s a with
    | hold => simp [hr] at h
    | raised f u => simp [hr] at h
    | ok v u =>
      rw [hr] at h
      cases hrs : busReads n (a + 1) u <;> simp only [hrs] at h <;> cases h
      simp only [busRead_appendInput bs hr, ih hrs]

theorem readOperand_appendInput {n : Nat} {p : Word} {s t : State} {o : Operand} (h : readOperand n p s = .ok o t) :
    readOperand n p (appendInput bs s) = .ok o (appendInput bs t) := by
  unfold readOperand at h ⊢
  cases hrs : busReads n (p + 1) s <;> simp only [hrs] at h <;> cases h
  simp only [busReads_appendInput bs hrs]

theorem fetchInstr_appendInput {s t : State} {i : Instr} (h : fetchInstr s = .ok i t) :
    fetchInstr (appendInput bs s) = .ok i (appendInput bs t) := by
  unfold fetchInstr at h ⊢
  cases hr : busRead s s.pc with
  | hold => simp [hr] at h
  | raised f u => simp [hr] at h
  | ok op u =>
    rw [hr] at h
    cases hro : readOperand (operandCount op) s.pc u <;> simp only [hro] at h <;> cases h
    simp only [appendInput_pc, busRead_appendInput bs hr, readOperand_appendInput bs hro]

theorem readWaits_of_appendInput {s : State} {a : Word} (h : readWaits (appendInput bs s) a = true) :
    readWaits s a = true := by
  simp only [readWaits, appendInput_cfg, appendInput_input, Bool.and_eq_true, List.isEmpty_iff,
    List.append_eq_nil_iff] at h ⊢
  obtain ⟨⟨ha, hp, -⟩, ho⟩ := h
  exact ⟨⟨ha, hp⟩, ho⟩

theorem execWaits_appendInput {i : Instr} {s : State} (h : execWaits i s = false) :
    execWaits i (appendInput bs s) = false := by
  cases i
  case lda a => exact Bool.eq_false_iff.mpr (mt (readWaits_of_appendInput bs) (Bool.eq_false_iff.mp h))
  all_goals rfl

/-! ### Operations that leave the input alone -/

open Function (Commute)

theorem completeStep_commute {body : State → State} (h : Commute body (appendInput bs)) (op : Byte) :
    Commute (completeStep op body) (appendInput bs) := fun s =>
  congrArg (addCycles op) (h (advancePc (sizeOfOpcode op) s))

theorem busWrite_commute (a : Word) (v : Byte) : Commute (busWrite a v) (appendInput bs) := fun s => by
  by_cases ha : a = s.cfg.outAddr
  · rw [busWrite_of_eq ha, busWrite_of_eq (s := appendInput bs s) ha]; rfl
  · rw [busWrite_of_ne ha, busWrite_of_ne (s := appendInput bs s) ha]; rfl

theorem setAddFlags_commute (x y : Byte) : Commute (setAddFlags x y) (appendInput bs) := fun s => by
  cases h : s.cfg.flagPolicy <;> simp [setAddFlags, setAuxParity, appendInput, h]

theorem addBToA_commute : Commute addBToA (appendInput bs) := fun s =>
  congrArg (setReg .a (s.regs.a + s.regs.b)) (setAddFlags_commute bs s.regs.a s.regs.b s)

/-- An instruction that neither waits nor finds the stream closed does not see what is appended to the input. -/
theorem exec_appendInput {i : Instr} {s t : State} (ho : s.input.closed = false) (hw : execWaits i s = false)
    (h : exec i s = .next t) : exec i (appendInput bs s) = .next (appendInput bs t) := by
  rw [exec_eq_next_iff] at h ⊢
  cases h with
  | waits hw' => rw [hw] at hw'; cases hw'
  | unimplemented hr => exact .unimplemented (s := appendInput bs s) hr
  | exhausted hr =>
    obtain ⟨-, -, -, -, hc⟩ := busRead_raised hr
    rw [ho] at hc; cases hc
  | nop hr => exact .nop (s := appendInput bs s) hr
  | sta a => rw [← completeStep_commute bs fun u => busWrite_commute bs a u.regs.a u]; exact .sta a _
  | lda hr => exact .lda (busRead_appendInput bs hr)
  | movBA => exact .movBA (appendInput bs s)
  | addB => rw [← completeStep_commute bs (addBToA_commute bs)]; exact .addB _
  | hlt => exact .hlt (appendInput bs s)

end

/-- A fetch that raises has found the stream closed (60_exceptions.md R204). -/
theorem input_closed_of_fetchInstr_raised {s t : State} {f : FaultRecord} (h : fetchInstr s = .raised f t) :
    s.input.closed = true := by
  obtain ⟨⟨-, -, hc⟩, _, htk⟩ := fetchInstr_raised h
  simpa [htk.frame] using hc

/-- Settles O45: a step of an open stream that does not hold is a fetch and an instruction, and both commute with the
appending. -/
theorem lateInputChangesNothing : Obligations.LateInputChangesNothing := by
  intro s bs hs ho hw
  rcases step_running_cases hs with ⟨hw', _⟩ | ⟨_, f, u, hf, _⟩ | ⟨_, i, u, hf, hwi, hstep⟩
  · rw [hw] at hw'; cases hw'
  · rw [input_closed_of_fetchInstr_raised hf] at ho; cases ho
  · obtain ⟨_, htk⟩ := fetchInstr_ok hf
    have hou : u.input.closed = false := by simp [htk.frame, ho]
    obtain ⟨t, ht⟩ := exec_answers_next i u
    refine ⟨t, hstep.trans ht, ?_⟩
    rw [step_of_fetch_ok (s := appendInput bs s) hs (fetchInstr_appendInput bs hf), execWaits_appendInput bs hwi]
    exact exec_appendInput bs hou hwi ht

end Sys2Proof.Machine
end

section
/-! PROOF. The step (40_fetch_decode_execute.md R100 to R119): Halted and Faulted states, what a step that faults or
halts leaves, and the step whose instruction stands in the buffer. -/

namespace Sys2Proof.Machine

/-! ### Halted and Faulted states -/

theorem stepKind_halted {s : State} (h : s.status = .halted) : stepKind s = .final := by simp [stepKind, h]

theorem stepKind_faulted {s : State} (h : s.status = .faulted) : stepKind s = .notEnabled := by simp [stepKind, h]

/-- Settles O41: the step and the name of its outcome, by the status. -/
theorem terminalStates : Obligations.TerminalStates := fun _ =>
  ⟨fun h => ⟨step_halted h, stepKind_halted h⟩, fun h => ⟨step_faulted h, stepKind_faulted h⟩⟩

/-- A step from a state that is not Running goes nowhere else. -/
theorem step_next_of_not_running {s t : State} (hs : s.status ≠ .running) (h : step s = .next t) : t = s := by
  rcases step_next_cases h with rfl | ⟨hr, -⟩ | ⟨hr, -⟩
  · rfl
  · exact absurd hr hs
  · exact absurd hr hs

/-- Settles O54, by induction on the run: a step goes nowhere, and an action of the host writes the streams only. -/
theorem terminalStatesAreForever : Obligations.TerminalStatesAreForever := by
  intro s t hs h
  induction h with
  | start => rfl
  | @step u v _ hstep ih =>
    obtain rfl : v = u := step_next_of_not_running (by rwa [ih]) hstep
    exact ih
  | env act _ henv ih =>
    rcases envStep_cases henv with ⟨bs, -, rfl⟩ | ⟨-, rfl⟩ | ⟨n, rfl⟩ <;> rw [ih] <;> rfl

/-! ### Faults and halts -/

/-- Settles O18: an instruction that is not admitted is one whose opcode has no rule. -/
theorem unimplementedTakesFault : Obligations.UnimplementedTakesFault := fun _ _ h =>
  exec_of_rule_unimplemented (bne_eq_false_iff_eq.mp h)

/-- An instruction that leaves the machine Faulted has taken a fault and done nothing else. -/
theorem exec_faulted {i : Instr} {s t : State} (h : exec i s = .next t) (hs : s.status ≠ .faulted)
    (ht : t.status = .faulted) : ∃ f, t = takeFault f s := by
  rcases statusAndFaultFrame i s t h with ⟨hst, -⟩ | ⟨-, hst, -⟩ | hf
  · exact absurd (hst.symm.trans ht) hs
  · rw [ht] at hst; cases hst
  · exact hf

/-- Settles O42: the fault is the fetch's or the instruction's, and both are taken on the state the fetch left. -/
theorem faultIsPrecise : Obligations.FaultIsPrecise := by
  intro s t hs h ht
  rcases step_next_fetched h with rfl | ⟨used, u, ⟨hp, hu⟩, -, -, hcase⟩
  · rw [hs] at ht; cases ht
  have taken : ∃ f, t = takeFault f u := by
    rcases hcase with ⟨f, -, rfl⟩ | ⟨i, -, he⟩
    · exact ⟨f, rfl⟩
    · exact exec_faulted he (by rw [hu, hs]; decide) ht
  obtain ⟨f, rfl⟩ := taken
  exact ⟨f, used, u.input.pending, hp, congrArg (takeFault f) hu⟩

/-- An instruction that leaves a machine that was not Halted in Halted is HLT. -/
theorem exec_halted {i : Instr} {s t : State} (h : exec i s = .next t) (hs : s.status ≠ .halted)
    (ht : t.status = .halted) : i = .hlt ∧ t = enterHalted (completeStep 0x76#8 id s) := by
  rcases statusAndFaultFrame i s t h with ⟨hst, -⟩ | ⟨rfl, -⟩ | ⟨f, rfl⟩
  · exact absurd (hst.symm.trans ht) hs
  · cases h; exact ⟨rfl, rfl⟩
  · cases ht

/-- Settles O43: a fetch leaves the status alone, a fault does not halt, and of the instructions only HLT does. -/
theorem onlyHltHalts : Obligations.OnlyHltHalts := by
  intro s t hs h ht
  rcases step_next_fetched h with rfl | ⟨_, u, htk, -, -, ⟨f, -, rfl⟩ | ⟨i, hf, he⟩⟩
  · rw [hs] at ht; cases ht
  · cases ht
  · obtain ⟨rfl, rfl⟩ := exec_halted he (by simp [htk.frame, hs]) ht
    exact ⟨u, hf, by simp [htk.frame]⟩

/-! ### The instruction in the buffer -/

theorem fetchReadsInput_eq_false_iff {s : State} :
    s.fetchReadsInput = false ↔ s.pc ≠ s.cfg.inAddr ∧
      (operandCount (readBuf s s.pc) = 2 → s.pc + 1 ≠ s.cfg.inAddr ∧ s.pc + 2 ≠ s.cfg.inAddr) := by
  simp only [State.fetchReadsInput, Bool.or_eq_false_iff, Bool.and_eq_false_iff, beq_eq_false_iff_ne, ← not_or]
  tauto

/-- A fetch that reads nothing at `IN_ADDR` gives what the buffer bytes at the pc decode to, and takes no input. -/
theorem fetchInstr_of_buffer {s : State} {i : Instr} {rest : List Byte} (hr : s.fetchReadsInput = false)
    (hd : decode [readBuf s s.pc, readBuf s (s.pc + 1), readBuf s (s.pc + 2)] = .instr i rest) :
    fetchInstr s = .ok i s := by
  obtain ⟨hpc, hoperand⟩ := fetchReadsInput_eq_false_iff.mp hr
  rcases decode_three hd with ⟨h0, rfl⟩ | ⟨h2, rfl⟩
  · exact fetchInstr_of_opcode (busRead_of_ne hpc) h0
  · obtain ⟨hlo, hhi⟩ := hoperand h2
    exact fetchInstr_of_address (busRead_of_ne hpc) h2 (busRead_of_ne hlo) (busRead_of_ne hhi)

/-- Settles O36: the fetch gives the decoded instruction in the state itself. -/
theorem stepRunsDecodedInstruction : Obligations.StepRunsDecodedInstruction := fun _ _ _ hs hr hd =>
  step_of_fetch_same hs (fetchInstr_of_buffer hr hd)

/-- Where an instruction reads data through the Bus, it is not at `IN_ADDR` (40_fetch_decode_execute.md R112). -/
def NoInputOperand (i : Instr) (s : State) : Prop := ∀ a, i = .lda a → a ≠ s.cfg.inAddr

theorem NoInputOperand.not_waits {i : Instr} {s : State} (h : NoInputOperand i s) : execWaits i s = false := by
  cases i
  case lda a => simp [execWaits, readWaits, h a rfl]
  all_goals rfl

/-- An instruction with a rule and no data read at `IN_ADDR` takes no fault. -/
theorem exec_not_faulted {i : Instr} {s t : State} (hs : s.status ≠ .faulted)
    (hr : ruleOf s.cfg (opcodeOf i) ≠ .unimplemented) (hin : NoInputOperand i s) (h : exec i s = .next t) :
    t.status ≠ .faulted := by
  cases execEffect_of_exec h with
  | waits => exact hs
  | unimplemented hr' => exact absurd hr' hr
  | exhausted hx =>
    obtain ⟨-, ha, -⟩ := busRead_raised hx
    exact absurd ha (hin _ rfl)
  | lda hx => obtain ⟨_, htk, -⟩ := busRead_ok_took hx; simpa [htk.frame] using hs
  | hlt => nofun
  | _ => simpa using hs

/-- The operand of a decoded LDA is its second byte, the high one, joined to its first. -/
theorem decode_three_lda {op lo hi : Byte} {a : Word} {rest : List Byte}
    (h : decode [op, lo, hi] = .instr (.lda a) rest) : op = 0x3A#8 ∧ a = joinBytes hi lo := by
  have bytes := encodeOfDecode _ _ _ h
  simp only [encode, opcodeOf, operandBytesOf, List.cons_append, List.cons.injEq] at bytes
  obtain ⟨hop, hlo, hhi, -⟩ := bytes
  exact ⟨hop.symm, by rw [← hlo, ← hhi, joinBytes_high_low]⟩

/-- Settles O44: the buffer bytes decode to an instruction with a rule, and neither its fetch nor its data read meets
`IN_ADDR`. -/
theorem stepCompletesWhenAdmitted : Obligations.StepCompletesWhenAdmitted := by
  intro s hs hr hrule hdata
  obtain ⟨i, rest, hd, hop, -⟩ := decodeIsTotal (readBuf s s.pc) (readBuf s (s.pc + 1)) (readBuf s (s.pc + 2)) []
  have hf := fetchInstr_of_buffer hr hd
  have hin : NoInputOperand i s := by
    rintro a rfl
    obtain ⟨hlda, rfl⟩ := decode_three_lda hd
    exact hdata hlda
  obtain ⟨t, ht⟩ := exec_answers_next i s
  have hstep : step s = .next t := (step_of_fetch_same hs hf).trans ht
  have hnf : t.status ≠ .faulted := exec_not_faulted (by simp [hs]) (hop ▸ hrule) hin ht
  refine ⟨?_, t, hstep, hnf⟩
  simp [stepKind, hs, stepWaits, hf, hin.not_waits, landsFaulted, hstep, hnf]

/-! ### A data read that finds no input after the fetch -/

/-- An LDA from `IN_ADDR`, fetched with nothing left pending: where its data read holds, so does the step, from the state
before the fetch (R105); where it raises, the fault is taken on the state the fetch left (R108, R116). -/
theorem step_of_fetched_lda_without_input {s u : State} {a : Word} (hs : s.status = .running)
    (hf : fetchInstr s = .ok (.lda a) u) (ha : a = u.cfg.inAddr) (hp : u.input.pending = []) :
    (u.input.closed = false → step s = .next s) ∧
    (u.input.closed = true → step s = .next (takeFault (.inputExhausted u.cfg.inAddr) u)) := by
  subst ha
  rw [step_of_fetch_ok hs hf]
  refine ⟨fun ho => if_pos (busRead_hold.mp (busRead_inAddr_open hp ho)), fun hc => ?_⟩
  have hw : execWaits (.lda u.cfg.inAddr) u = false := by simp [execWaits, readWaits, hc]
  rw [hw]
  exact exec_eq_next_iff.mpr (.exhausted (busRead_inAddr_closed hp hc))

/-- Settles O40: the fetch takes the only byte pending as the operand's low byte, and the data read finds none. -/
theorem heldAttemptGivesInputBack : Obligations.HeldAttemptGivesInputBack := by
  intro s lo hs hlo hop hp ha
  have opcode : busRead s s.pc = .ok 0x3A#8 s := hop ▸ busRead_of_ne (hlo ▸ (word_add_one_ne s.pc).symm)
  have low : busRead s (s.pc + 1) = .ok lo { s with input := ⟨[], s.input.closed⟩ } := hlo ▸ busRead_inAddr_cons hp
  have fetched := fetchInstr_of_address opcode (by decide) low
    (busRead_of_ne (hlo ▸ (word_add_one_ne_two s.pc).symm))
  obtain ⟨holds, faults⟩ := step_of_fetched_lda_without_input hs fetched ha rfl
  exact ⟨holds, fun hc => (faults hc).trans (by rw [hc]; rfl)⟩

end Sys2Proof.Machine
end

section
/-! PROOF. The no-operation family (41_no_operation.md R130 to R132): an opcode whose rule is NOP is one byte long, and
its instruction advances the pc and adds the cost of that opcode. -/

namespace Sys2Proof.Machine

/-- The rule of an opcode is NOP exactly when it is a candidate that is 0x00 or in `NOP_ALIASES` (30_encoding.md R89,
R90). -/
theorem ruleOf_eq_nop_iff (cfg : Config) (op : Byte) :
    ruleOf cfg op = .nop ↔ op ∈ nopCandidates ∧ (op = 0x00#8 ∨ op ∈ cfg.nopAliases) := by
  by_cases hc : op ∈ nopCandidates
  · have hnop : baseRuleOf op = .nop := (baseRuleOf_eq_nop_iff op).mpr hc
    simp [ruleOf, hnop, hc, or_iff_not_imp_left]
  · have hnop : baseRuleOf op ≠ .nop := mt (baseRuleOf_eq_nop_iff op).mp hc
    simp [ruleOf_of_ne_nop hnop, hnop, hc]

/-- Every candidate is one byte long (30_encoding.md R81). -/
theorem sizeOfOpcode_of_mem_nopCandidates : ∀ op ∈ nopCandidates, sizeOfOpcode op = 1 := by decide

/-- The whole effect of an instruction whose rule is NOP, whatever its opcode (R130, R131). -/
theorem exec_of_rule_nop_eq {i : Instr} {s : State} (h : ruleOf s.cfg (opcodeOf i) = .nop) :
    exec i s = .next { s with pc := s.pc + 1, cycles := s.cycles + cyclesOfOpcode s.cfg (opcodeOf i) } := by
  obtain ⟨hcand, -⟩ := (ruleOf_eq_nop_iff _ _).mp h
  rw [exec_of_rule_nop h, completeStep, sizeOfOpcode_of_mem_nopCandidates _ hcand]
  rfl

/-- Settles O17: a candidate in `NOP_ALIASES` has the rule NOP. -/
theorem nopAliasCompletes : Obligations.NopAliasCompletes := fun i s hi halias =>
  have hcand : opcodeOf i ∈ nopCandidates := (opcodeOf_mem_nopCandidates_iff i).mpr (.inr hi)
  exec_of_rule_nop_eq ((ruleOf_eq_nop_iff s.cfg _).mpr ⟨hcand, .inr halias⟩)

/-- Settles O16: 0x00 has the rule NOP whatever the parameters. -/
theorem nopCompletes : Obligations.NopCompletes := fun s => exec_of_rule_nop_eq (i := .nop) (ruleOf_nop s.cfg)

end Sys2Proof.Machine
end

section
/-! PROOF. The data transfer family (42_data_transfer.md R140 to R150): what LDA loads, where STA stores, and the byte
that an LDA followed by an STA copies. -/

namespace Sys2Proof.Machine

/-- An LDA whose Bus read answers loads that byte into A, in the state the read leaves (R141, R142). -/
theorem exec_lda_of_busRead {a : Word} {s u : State} {v : Byte} (h : busRead s a = .ok v u) :
    exec (.lda a) s = .next { u with
      regs := { u.regs with a := v }
      pc := u.pc + 3
      cycles := u.cycles + cyclesOfOpcode u.cfg 0x3A#8 } := by
  rw [exec_eq_next_iff.mpr (.lda h), completeStep, sizeOfOpcode_lda]
  rfl

/-- Settles O19: away from `IN_ADDR` the read answers the buffer byte. -/
theorem ldaLoadsFromBuffer : Obligations.LdaLoadsFromBuffer := fun _ _ ha =>
  exec_lda_of_busRead (busRead_of_ne ha)

/-- Settles O20: at `IN_ADDR` the read answers the first pending byte and consumes it. -/
theorem ldaLoadsFromInput : Obligations.LdaLoadsFromInput := fun _ _ _ hp =>
  exec_lda_of_busRead (busRead_inAddr_cons hp)

/-- Settles O22: the store is `writeBuf`, whose law of a read after it is `readBuf_writeBuf`. -/
theorem staStoresToBuffer : Obligations.StaStoresToBuffer := by
  intro s a ha hm
  have law : ∀ b, memRead (memWrite s.mem a.toNat s.regs.a) b.toNat = if b = a then s.regs.a else readBuf s b :=
    fun b => readBuf_writeBuf hm a b s.regs.a
  exact ⟨_, exec_sta_buffer ha, (law a).trans (if_pos rfl), fun b hb => (law b).trans (if_neg hb)⟩

/-- Settles O23: the Bus write of the store is the one at `OUT_ADDR`. -/
theorem staWritesOutput : Obligations.StaWritesOutput := by
  intro s
  rw [exec_eq_next_iff.mpr (.sta s.cfg.outAddr s), completeStep, sizeOfOpcode_sta,
    busWrite_of_eq (a := s.cfg.outAddr) (s := advancePc 3 s) rfl]
  rfl

/-- Settles O24: MOV B,A is one byte long, and its execute part copies A to B. -/
theorem movBACopies : Obligations.MovBACopies := by
  intro s
  rw [exec_eq_next_iff.mpr (.movBA s), completeStep, sizeOfOpcode_movBA]
  rfl

/-- Settles O29: of all effects only that of STA writes through the Bus; the read of an LDA takes input and nothing
else. -/
theorem onlyStaStores : Obligations.OnlyStaStores := by
  intro i s t hi h
  cases execEffect_of_exec h with
  | sta a => exact absurd rfl (hi a)
  | lda hr => obtain ⟨_, htk, -⟩ := busRead_ok_took hr; simp [readBuf, htk.frame]
  | _ => simp [readBuf]

/-- Settles O32: the store is the one to Out or the one to the buffer, and each is known in full. -/
theorem staFrame : Obligations.StaFrame := by
  intro a s t hm h
  by_cases ha : a = s.cfg.outAddr
  · subst ha
    rw [staWritesOutput s] at h
    cases h
    exact ⟨rfl, rfl, rfl, rfl, rfl, rfl, rfl, rfl, fun _ _ => rfl, fun hne => absurd rfl hne⟩
  · obtain ⟨m, hstore, -, hother⟩ := staStoresToBuffer s a ha hm
    rw [hstore] at h
    cases h
    exact ⟨rfl, rfl, rfl, rfl, rfl, rfl, rfl, rfl, fun he => absurd he ha, fun _ => ⟨rfl, hother⟩⟩

/-- An LDA whose Bus read answers `v` puts it in A, and leaves the parameters, the buffer and Out alone. -/
theorem exec_lda_loads {a : Word} {s u : State} {v : Byte} (hr : busRead s a = .ok v u) :
    ∃ t, exec (.lda a) s = .next t ∧ t.regs.a = v ∧ t.cfg = s.cfg ∧ t.mem = s.mem ∧ t.output = s.output := by
  obtain ⟨_, htk, -⟩ := busRead_ok_took hr
  exact ⟨_, exec_lda_of_busRead hr, by simp [htk.frame]⟩

/-- An LDA whose Bus read answers `v`, then an STA to an address other than `OUT_ADDR`: that cell holds `v`, and no other
cell changes (R147). -/
theorem exec_lda_then_sta_buffer {s u : State} {a b : Word} {v : Byte} (hm : s.mem.wf = true)
    (hr : busRead s a = .ok v u) (hb : b ≠ s.cfg.outAddr) :
    ∃ t w, exec (.lda a) s = .next t ∧ exec (.sta b) t = .next w ∧ readBuf w b = v ∧
      ∀ c, c ≠ b → readBuf w c = readBuf s c := by
  obtain ⟨t, hload, ha, hcfg, hmem, -⟩ := exec_lda_loads hr
  obtain ⟨m, hstore, hcell, hother⟩ := staStoresToBuffer t b (hcfg ▸ hb) (hmem ▸ hm)
  exact ⟨t, _, hload, hstore, hcell.trans ha, fun c hc => (hother c hc).trans (by rw [readBuf, hmem, readBuf])⟩

/-- An LDA whose Bus read answers `v`, then an STA to `OUT_ADDR`: `v` goes to Out, and no cell changes (R147). -/
theorem exec_lda_then_sta_output {s u : State} {a : Word} {v : Byte} (hr : busRead s a = .ok v u) :
    ∃ t w, exec (.lda a) s = .next t ∧ exec (.sta s.cfg.outAddr) t = .next w ∧ w.output = s.output ++ [v] ∧
      ∀ c, readBuf w c = readBuf s c := by
  obtain ⟨t, hload, ha, hcfg, hmem, hout⟩ := exec_lda_loads hr
  exact ⟨t, _, hload, hcfg ▸ staWritesOutput t, by rw [hout, ha], fun c => by rw [readBuf, hmem, readBuf]⟩

/-- Settles O52: each clause is one answer of the load's Bus read and one target of the store. -/
theorem loadStoreRoundTrip : Obligations.LoadStoreRoundTrip := by
  intro s a b hm
  refine ⟨fun ha _ _ hb _ => ?_, fun v rest ha hp hb => ?_, fun ha hb => ?_, fun v rest ha hp hb => ?_⟩
  · exact exec_lda_then_sta_buffer hm (busRead_of_ne ha) hb
  · exact exec_lda_then_sta_buffer hm (ha ▸ busRead_inAddr_cons hp) hb
  · exact hb ▸ exec_lda_then_sta_output (busRead_of_ne ha)
  · exact hb ▸ exec_lda_then_sta_output (ha ▸ busRead_inAddr_cons hp)

end Sys2Proof.Machine
end

section
/-! PROOF. The arithmetic family (43_arithmetic.md R160 to R168): the sum ADD B writes, and the flags it sets. -/

namespace Sys2Proof.Machine

/-! ### The flag rules as arithmetic -/

theorem carryOut_eq_true_iff (x y : Byte) : carryOut x y = true ↔ x.toNat + y.toNat > 255 := decide_eq_true_iff

theorem auxCarryOut_eq_true_iff (x y : Byte) : auxCarryOut x y = true ↔ x.toNat % 16 + y.toNat % 16 > 15 :=
  decide_eq_true_iff

theorem signOf_add (x y : Byte) : signOf (x + y) = (BitVec.ofNat 8 (x.toNat + y.toNat)).getLsbD 7 := by
  rw [signOf, BitVec.add_def]

theorem zeroOf_add_eq_true_iff (x y : Byte) : zeroOf (x + y) = true ↔ (x.toNat + y.toNat) % 256 = 0 := by
  rw [zeroOf, beq_iff_eq, ← BitVec.toNat_inj, BitVec.toNat_add]
  rfl

theorem parityOf_eq_true_iff (v : Byte) :
    parityOf v = true ↔ ((List.range 8).filter fun k => v.getLsbD k).length % 2 = 0 := beq_iff_eq

/-! ### AC and P, by the policy (R164); `unchanged` is `setAddFlags_ac_p_of_unchanged` -/

theorem setAddFlags_ac_p_of_havoc {s : State} (h : s.cfg.flagPolicy = .havoc) (x y : Byte) :
    (setAddFlags x y s).flags.ac = Config.freeBit s.draws ∧
      (setAddFlags x y s).flags.p = Config.freeBit (s.draws + 1) := by
  simp [setAddFlags, setAuxParity, h]

theorem setAddFlags_ac_p_of_intel8080 {s : State} (h : s.cfg.flagPolicy = .intel8080) (x y : Byte) :
    (setAddFlags x y s).flags.ac = auxCarryOut x y ∧ (setAddFlags x y s).flags.p = parityOf (x + y) := by
  simp [setAddFlags, setAuxParity, h]

/-! ### ADD B -/

/-- An addition writes the flags and the draw counter, and neither reads the pc: it can be done before the pc advance. -/
theorem setAddFlags_advancePc (x y : Byte) (n : Nat) (s : State) :
    setAddFlags x y (advancePc n s) = { advancePc n s with
      flags := (setAddFlags x y s).flags
      draws := (setAddFlags x y s).draws } := by
  cases h : s.cfg.flagPolicy <;> simp [setAddFlags, setAuxParity, h]

/-- The whole effect of ADD B (R165 to R168): `setAddFlags` of the operands gives the flags. -/
theorem exec_addB_eq (s : State) : exec .addB s = .next { s with
    regs := { s.regs with a := s.regs.a + s.regs.b }
    pc := s.pc + 1
    cycles := s.cycles + cyclesOfOpcode s.cfg 0x80#8
    flags := (setAddFlags s.regs.a s.regs.b s).flags
    draws := (setAddFlags s.regs.a s.regs.b s).draws } := by
  rw [exec_eq_next_iff.mpr (.addB s), completeStep, sizeOfOpcode_addB, addBToA, setAddFlags_advancePc]
  rfl

/-- Settles O25: the sum of bytes is the sum modulo 256, and the rest is the effect of ADD B. -/
theorem addBAdds : Obligations.AddBAdds := fun s =>
  ⟨_, exec_addB_eq s, BitVec.toNat_add s.regs.a s.regs.b, rfl⟩

/-- Settles O26: C, S and Z do not depend on the policy, and each is its rule on the exact sum. -/
theorem addBFlags : Obligations.AddBFlags := by
  intro s
  obtain ⟨hs, hz, hc⟩ := setAddFlags_szc s.regs.a s.regs.b s
  refine ⟨_, exec_addB_eq s, ?_, ?_, ?_⟩
  · rw [hc]; exact carryOut_eq_true_iff _ _
  · rw [hs]; exact signOf_add _ _
  · rw [hz]; exact zeroOf_add_eq_true_iff _ _

/-- Settles O27: one law of `setAddFlags` for each policy. -/
theorem addBAuxParity : Obligations.AddBAuxParity := by
  intro s
  refine ⟨_, exec_addB_eq s, fun h => ?unchanged, fun h => ?havoc, fun h => ?intel8080⟩
  case unchanged =>
    obtain ⟨hac, hp⟩ := setAddFlags_ac_p_of_unchanged h s.regs.a s.regs.b
    exact ⟨hac, hp, by simp [setAddFlags_draws, h]⟩
  case havoc =>
    obtain ⟨hac, hp⟩ := setAddFlags_ac_p_of_havoc h s.regs.a s.regs.b
    exact ⟨hac, hp, by simp [setAddFlags_draws, h]⟩
  case intel8080 =>
    obtain ⟨hac, hp⟩ := setAddFlags_ac_p_of_intel8080 h s.regs.a s.regs.b
    refine ⟨?_, ?_, by simp [setAddFlags_draws, h]⟩
    · rw [hac]; exact auxCarryOut_eq_true_iff _ _
    · rw [hp]; exact parityOf_eq_true_iff _

end Sys2Proof.Machine
end

section
/-! PROOF. The machine control family (44_machine_control.md R180 to R184): HLT. -/

namespace Sys2Proof.Machine

/-- Settles O28: HLT is one byte long and has no execute part, so halting is its only effect beside pc and cycles. -/
theorem hltHalts : Obligations.HltHalts := by
  intro s
  rw [exec_eq_next_iff.mpr (.hlt s), completeStep, sizeOfOpcode_hlt]
  rfl

end Sys2Proof.Machine
end

section
/-! PROOF. The unimplemented opcode as a step (60_exceptions.md R201 to R203; 40_fetch_decode_execute.md R106): the
opcode's Bus read is the whole fetch, so the fault is taken on the state that read left. -/

namespace Sys2Proof.Machine

/-- Only LDA waits, and its opcode has a rule. -/
theorem execWaits_of_rule_unimplemented {i : Instr} {s : State} (h : ruleOf s.cfg (opcodeOf i) = .unimplemented) :
    execWaits i s = false := by
  unfold execWaits
  split
  · simp [opcodeOf] at h
  · rfl

/-- Wherever the opcode was read from, the step takes its fault on the state the read left. -/
theorem step_of_unimplemented_opcode {s t : State} {op : Byte} (hs : s.status = .running)
    (hop : busRead s s.pc = .ok op t) (hr : ruleOf t.cfg op = .unimplemented) :
    step s = .next (raiseUnimplemented op t) := by
  have hi := opcodeOf_decodeOpcode op .none
  have fetched := fetchInstr_of_opcode hop (operandCount_of_unimplemented hr)
  rw [← hi] at hr
  rw [step_of_fetch_ok hs fetched, execWaits_of_rule_unimplemented hr, exec_of_rule_unimplemented hr, hi]
  rfl

/-- Settles O39: the opcode's read leaves the state alone in the buffer, and takes its byte at `IN_ADDR`. -/
theorem unimplementedStep : Obligations.UnimplementedStep := by
  refine fun s hs => ⟨step_of_buffer_unimplemented hs, fun b rest ha hp hr => ?_⟩
  have opcode : busRead s s.pc = .ok b { s with input := ⟨rest, s.input.closed⟩ } := ha ▸ busRead_inAddr_cons hp
  exact step_of_unimplemented_opcode hs opcode hr

end Sys2Proof.Machine
end

section
/-! PROOF. Launch (70_reset_and_hazards.md R233 to R235): when it starts a run, and the state it starts in. -/

namespace Sys2Proof.Machine

/-- An image that fits starts a run, in the state of construction over the loaded buffer (R230, R235). -/
theorem launch_of_fits {image : List Byte} (h : image.length ≤ addressSpace) (cfg : Config) (rest : Memory)
    (input : InputStream) :
    launch cfg image rest input = .started (State.construct cfg (loadImage image rest) input) :=
  if_neg (Nat.not_lt.mpr h)

/-- An image that does not fit starts no run (R209, R233). -/
theorem launch_of_tooLarge {image : List Byte} (h : addressSpace < image.length) (cfg : Config) (rest : Memory)
    (input : InputStream) : launch cfg image rest input = .notStarted .imageTooLarge :=
  if_pos h

/-- Every run starts in a state of construction over the loaded buffer. -/
theorem eq_construct_of_launch_started {cfg : Config} {image : List Byte} {rest : Memory} {input : InputStream}
    {s : State} (h : launch cfg image rest input = .started s) :
    s = State.construct cfg (loadImage image rest) input := by
  rcases Nat.lt_or_ge addressSpace image.length with large | fits
  · rw [launch_of_tooLarge large] at h
    cases h
  · rw [launch_of_fits fits] at h
    exact (Launched.started.inj h).symm

/-- Settles O9: the address space has 65536 addresses. -/
theorem launchRefusesLargeImage : Obligations.LaunchRefusesLargeImage :=
  fun cfg _ rest input hlarge => launch_of_tooLarge hlarge cfg rest input

/-- Settles O57: the image load keeps the canonical form, and construction over a canonical buffer has the invariant. -/
theorem launchHasInv : Obligations.LaunchHasInv := by
  intro cfg image rest input s hwf h
  rw [eq_construct_of_launch_started h]
  exact construct_inv (loadImage_wf hwf image) cfg input

end Sys2Proof.Machine
end
